-- ==== Sys2Proof/Word.lean ====
section
/-! DEFINITION. The plain words and the small enumerations the whole model is written in.
Bits are numbered from 0 at the least significant end (`00_scope.md` R7). -/

namespace Sys2Proof

/-- Eight bits: a status byte, a direction mask, the CPU's `A` (R31, R84). -/
abbrev Byte := BitVec 8

/-- The 16-bit command word `{arg, op}` (R80). -/
abbrev CommandWord := BitVec 16

/-- The emulated CPU's program counter, as `GetPC()` answers it (R31). -/
abbrev CpuAddr := BitVec 16

/-- A 32-bit content hash (P13). -/
abbrev ContentHash := BitVec 32

/-- One raw GPIO sample word (R63, R86). Its width is the parameter `GPIO_W` (P1), so it is a natural number that
`GpioRead` keeps below `2 ^ GPIO_W`. DESIGN CHOICE, log entry 12 (safe). -/
abbrev RawWord := Nat

/-- A timestamp (R9, R255). Its width is the parameter `TIME_W` (P14); `Now` keeps it below `2 ^ TIME_W`.
DESIGN CHOICE, log entry 12 (safe). -/
abbrev Timestamp := Nat

/-- The opaque head direction or track (R66), compared only for equality. -/
abbrev HeadValue := Nat

/-- The opaque file information that names an image to open (R81, R226). -/
abbrev FileInfo := Nat

/-- The index `d` of a drive instance (R5). -/
inductive DriveId where
  | drive0
  | drive1
deriving DecidableEq, Repr

/-- The other instance. -/
def DriveId.other : DriveId → DriveId
  | .drive0 => .drive1
  | .drive1 => .drive0

/-- `ChipKind` (R27): the gate model and the chip of the emulated drive. -/
inductive ChipKind where
  | via1541
  | cia1581
deriving DecidableEq, Repr

/-- The IEC device numbers 8, 9, 10 and 11 (R34, R93). -/
inductive DeviceNumber where
  | dev8
  | dev9
  | dev10
  | dev11
deriving DecidableEq, Repr

/-- The fast path's three outcomes (R91, R190). -/
inductive FastPathOutcome where
  | imageSelected
  | stateChange
  | fpReset
deriving DecidableEq, Repr

end Sys2Proof
end

