-- ==== Sys2Proof/Syntax.lean ====
section
/-! DEFINITION. The operations of the block, one constructor for each row of `spec/opcode_table.json`
(`30_encoding.md` R82). Operands are typed (R81): a reserved operand value cannot be written. -/

namespace Sys2Proof

/-- The 36 operations (R82). -/
inductive Instr where
  -- 0x0: the bus unit
  | busReset
  | readBrowse
  | readEmu1541
  | readEmu1581
  | refresh1541
  | refresh1581
  | portBOut (status : Byte)
  | setSrqOut (b : Bool)
  -- 0x1: the debouncer
  | pollButtons
  -- 0x2: the sequencer
  | fastpathEvent (outcome : FastPathOutcome)
  | beginEmulating
  | emulateEnter
  | fastbootStep
  | tick
  | emulateExit
  | shutdown
  -- 0x3: the arbiter
  | ddEnter
  | ddExit
  -- 0x4: the caddy
  | caddyInsert (readOnly : Bool)
  | selectFirst
  | selectImage (index : Byte)
  | nextDisk
  | prevDisk
  | getCount
  -- 0x5: the sub-steps of a tick
  | tickA
  | tickB
  | tickC
  | tickD
  | tickE
  | tickF
  | tickG
  | tickH
  | tickI
  | tickJ
  | tickJX
  | tickK
deriving DecidableEq, Repr

end Sys2Proof
end

