-- ==== Sys2Proof/Decode.lean ====
section
/-! DEFINITION. The command word: its decoder, total and rejecting by name, and its encoder
(`30_encoding.md` R80 to R82, R91, R94). -/

namespace Sys2Proof

/-- Why a command word is reserved (R94). -/
inductive Reserved where
  /-- `op` is a selector that the table of R82 does not list. -/
  | selector
  /-- `arg` violates the row's operand format: a non-zero bit where R81 wants 0. -/
  | operand
  /-- the fast-path outcome code 3 (R91). -/
  | outcomeCode
deriving DecidableEq, Repr

/-- `cw[7:0]`, the selector (R80). -/
def opField (cw : CommandWord) : Byte := cw.extractLsb' 0 8

/-- `cw[15:8]`, the operand byte (R80). -/
def argField (cw : CommandWord) : Byte := cw.extractLsb' 8 8

/-- `{arg, op}` (R80). -/
def commandWord (arg op : Byte) : CommandWord := arg ++ op

/-- Format N: `arg` must be 0 (R81). -/
def formatN (arg : Byte) (i : Instr) : Except Reserved Instr :=
  if arg = 0 then .ok i else .error .operand

/-- Format S and format X: any `arg` is the operand (R81). -/
def formatByte (arg : Byte) (i : Byte → Instr) : Except Reserved Instr :=
  .ok (i arg)

/-- Format B: `arg[0]` is the operand, `arg[7:1]` must be 0 (R81). -/
def formatB (arg : Byte) (i : Bool → Instr) : Except Reserved Instr :=
  if arg.extractLsb' 1 7 = 0 then .ok (i (arg.getLsbD 0)) else .error .operand

/-- The fast-path outcome a two-bit code names; code 3 is reserved (R91). -/
def outcomeOfCode (code : BitVec 2) : Option FastPathOutcome :=
  match code with
  | 0 => some .imageSelected
  | 1 => some .stateChange
  | 2 => some .fpReset
  | 3 => none

/-- The code of a fast-path outcome (R91). -/
def codeOfOutcome : FastPathOutcome → BitVec 2
  | .imageSelected => 0
  | .stateChange => 1
  | .fpReset => 2

/-- Format E: `arg[1:0]` is an outcome code, `arg[7:2]` must be 0 (R81, R91). -/
def formatE (arg : Byte) (i : FastPathOutcome → Instr) : Except Reserved Instr :=
  if arg.extractLsb' 2 6 = 0 then
    match outcomeOfCode (arg.extractLsb' 0 2) with
    | some o => .ok (i o)
    | none => .error .outcomeCode
  else .error .operand

/-- The decoder: the table of R82, and "reserved" for every other word (R94). -/
def decode (cw : CommandWord) : Except Reserved Instr :=
  let arg := argField cw
  match (opField cw).toNat with
  | 0x01 => formatN arg .busReset
  | 0x02 => formatN arg .readBrowse
  | 0x03 => formatN arg .readEmu1541
  | 0x04 => formatN arg .readEmu1581
  | 0x05 => formatN arg .refresh1541
  | 0x06 => formatN arg .refresh1581
  | 0x07 => formatByte arg .portBOut
  | 0x08 => formatB arg .setSrqOut
  | 0x10 => formatN arg .pollButtons
  | 0x20 => formatE arg .fastpathEvent
  | 0x21 => formatN arg .beginEmulating
  | 0x22 => formatN arg .emulateEnter
  | 0x23 => formatN arg .fastbootStep
  | 0x24 => formatN arg .tick
  | 0x25 => formatN arg .emulateExit
  | 0x26 => formatN arg .shutdown
  | 0x30 => formatN arg .ddEnter
  | 0x31 => formatN arg .ddExit
  | 0x40 => formatB arg .caddyInsert
  | 0x41 => formatN arg .selectFirst
  | 0x42 => formatByte arg .selectImage
  | 0x43 => formatN arg .nextDisk
  | 0x44 => formatN arg .prevDisk
  | 0x45 => formatN arg .getCount
  | 0x50 => formatN arg .tickA
  | 0x51 => formatN arg .tickB
  | 0x52 => formatN arg .tickC
  | 0x53 => formatN arg .tickD
  | 0x54 => formatN arg .tickE
  | 0x55 => formatN arg .tickF
  | 0x56 => formatN arg .tickG
  | 0x57 => formatN arg .tickH
  | 0x58 => formatN arg .tickI
  | 0x59 => formatN arg .tickJ
  | 0x5A => formatN arg .tickJX
  | 0x5B => formatN arg .tickK
  | _ => .error .selector

/-- The selector of an operation (R82). -/
def selectorOf : Instr → Byte
  | .busReset => 0x01
  | .readBrowse => 0x02
  | .readEmu1541 => 0x03
  | .readEmu1581 => 0x04
  | .refresh1541 => 0x05
  | .refresh1581 => 0x06
  | .portBOut _ => 0x07
  | .setSrqOut _ => 0x08
  | .pollButtons => 0x10
  | .fastpathEvent _ => 0x20
  | .beginEmulating => 0x21
  | .emulateEnter => 0x22
  | .fastbootStep => 0x23
  | .tick => 0x24
  | .emulateExit => 0x25
  | .shutdown => 0x26
  | .ddEnter => 0x30
  | .ddExit => 0x31
  | .caddyInsert _ => 0x40
  | .selectFirst => 0x41
  | .selectImage _ => 0x42
  | .nextDisk => 0x43
  | .prevDisk => 0x44
  | .getCount => 0x45
  | .tickA => 0x50
  | .tickB => 0x51
  | .tickC => 0x52
  | .tickD => 0x53
  | .tickE => 0x54
  | .tickF => 0x55
  | .tickG => 0x56
  | .tickH => 0x57
  | .tickI => 0x58
  | .tickJ => 0x59
  | .tickJX => 0x5A
  | .tickK => 0x5B

/-- The operand byte of an operation (R81). -/
def operandOf : Instr → Byte
  | .portBOut status => status
  | .setSrqOut b => (BitVec.ofBool b).setWidth 8
  | .caddyInsert readOnly => (BitVec.ofBool readOnly).setWidth 8
  | .selectImage index => index
  | .fastpathEvent o => (codeOfOutcome o).setWidth 8
  | .busReset | .readBrowse | .readEmu1541 | .readEmu1581 | .refresh1541 | .refresh1581 | .pollButtons
  | .beginEmulating | .emulateEnter | .fastbootStep | .tick | .emulateExit | .shutdown | .ddEnter | .ddExit
  | .selectFirst | .nextDisk | .prevDisk | .getCount
  | .tickA | .tickB | .tickC | .tickD | .tickE | .tickF | .tickG | .tickH | .tickI | .tickJ | .tickJX | .tickK => 0

/-- The encoder: the command word of an operation (R80 to R82). -/
def encode (i : Instr) : CommandWord :=
  commandWord (operandOf i) (selectorOf i)

/-- The command word that `nbits` bits of the number `w` hold, every higher bit 0. The word is passed whole as a
number: the block has no byte order (R68). Log entry 29. -/
def wordOfBits (nbits w : Nat) : CommandWord :=
  BitVec.ofNat 16 (w % 2 ^ nbits)

/-- The instruction the decoder reads from the word whose bits are `w`. -/
def decodeTableWord (nbits w : Nat) : Option Instr :=
  match decode (wordOfBits nbits w) with
  | .ok i => some i
  | .error _ => none

end Sys2Proof
end

