-- ==== Sys2Proof/Config.lean ====
section
/-! DEFINITION. What is fixed before the block runs: the parameters P1 to P27 of `00_scope.md` R6, the configuration
record `cfg` of `10_state.md` R40 and `FLAG_ACTIVE_LOW` of `40_bus_sense.md` R115; and the free values.

Every parameter is a field of plain data, so that no OPEN value is built into a meaning: a statement about every
state is a statement about every choice of them. -/

namespace Sys2Proof

/-- The latches `InputMap` asks to set (R156): among `ReqExit`, `ReqNext`, `ReqPrev`, `ReqAutoload` and the bits of
`ReqDirectMask`. -/
structure InputLatches where
  exit     : Bool
  next     : Bool
  prev     : Bool
  autoload : Bool
  direct   : Nat
deriving DecidableEq, Repr

/-- One row of the table that represents `InputMap` (P26): the debounced state it is for, and the latches it sets. -/
structure InputMapRow where
  pressed : List Bool
  fired   : List Bool
  latches : InputLatches
deriving DecidableEq, Repr

/-- The parameters P1 to P27 and the configuration record (R6, R40). -/
structure Config where
  /-- P1, `GPIO_W`. -/
  gpioW : Nat
  /-- P2, the one-hot masks of the five sensed lines. -/
  pinAtn : RawWord
  pinData : RawWord
  pinClock : RawWord
  pinSRQ : RawWord
  pinReset : RawWord
  /-- P3, `PIN_BUTTON`: one mask for each button; `NBUTTONS` is its length. -/
  pinButtons : List RawWord
  /-- P4, the output-intent masks of the status byte and of the direction mask. -/
  stDataOut : Byte
  stClockOut : Byte
  stAtna : Byte
  /-- P5, the pin identifiers passed to `SetInput`. -/
  inData : Byte
  inClock : Byte
  inAtn : Byte
  /-- P6, `DEBOUNCE_THRESHOLD`. -/
  debounceThreshold : Nat
  /-- P7, `RepeatInterval(1)`, `RepeatInterval(2)`, and so on; the last one holds for ever. DEDUCED: the rule allows
  only functions that are constant in the end, and each of those is such a list. Log entry 13 (safe). -/
  repeatIntervals : List Nat
  /-- P8, `FAST_BOOT_CYCLES`. -/
  fastBootCycles : Nat
  /-- P9, `RESET_THRESHOLD`. -/
  resetThreshold : Nat
  /-- P10, `SNOOP_PCS_1541` and `SNOOP_PCS_1581`. -/
  snoopPcs1541 : List CpuAddr
  snoopPcs1581 : List CpuAddr
  /-- P11, `SNOOP_SIG[0..4]`. -/
  snoopSig : Vector Byte 5
  /-- P12, `EXIT_COUNTDOWN`. -/
  exitCountdown : Nat
  /-- P13, `QUIRK_HASHES`. -/
  quirkHashes : List ContentHash
  /-- P14, `TICK_PERIOD` and `TIME_W`. -/
  tickPeriod : Nat
  timeW : Nat
  /-- P15, `MAX_IMAGES`. -/
  maxImages : Nat
  /-- P16 to P22, the Boolean fields of `cfg`. -/
  invertIECInputs : Bool
  ignoreReset : Bool
  splitIECLines : Bool
  platformSupportsSplit : Bool
  refreshOutsAfterCPUStep : Bool
  dualDrive : Bool
  sharedGPIO : Bool
  resetToRoot : Bool
  soundViaDMA : Bool
  /-- P23, `SOUND_HALF_PERIOD` and `SOUND_DURATION`. -/
  soundHalfPeriod : Nat
  soundDuration : Nat
  /-- P24, `PRIMARY`. -/
  primary : DriveId
  /-- P25, `POWER_ON_CHIPKIND`. -/
  powerOnChipKind : ChipKind
  /-- P26, `InputMap` as a finite table; a state that no row lists sets no latch. Log entry 13 (safe). -/
  inputMap : List InputMapRow
  /-- P27, `DeviceID[0]` and `DeviceID[1]`. -/
  deviceID0 : DeviceNumber
  deviceID1 : DeviceNumber
  /-- `FLAG_ACTIVE_LOW` (R115, U8). -/
  flagActiveLow : Bool
deriving DecidableEq, Repr

/-- The parameter values `State.reset` is built with: the defaults of R6 where it gives one, else the illustrative
bindings T1 of `95_test_vectors.md` (full binding of the buttons). Neither gives `SNOOP_PCS_1581` (P10) and
`QUIRK_HASHES` (P13): one address, that of the 1541, and the eight hashes 0 to 7 are the model's own.
DESIGN CHOICE, log entries 1 and 7 (unsafe): the spec gives the boot inputs no reset value. -/
def Config.atReset : Config where
  gpioW := 32
  pinAtn := 0x01
  pinData := 0x02
  pinClock := 0x04
  pinSRQ := 0x08
  pinReset := 0x10
  pinButtons := [0x20, 0x40, 0x80, 0x100, 0x200]
  stDataOut := 0x02
  stClockOut := 0x08
  stAtna := 0x10
  inData := 0x01
  inClock := 0x04
  inAtn := 0x80
  debounceThreshold := 3
  repeatIntervals := [4, 2]
  fastBootCycles := 1000000
  resetThreshold := 10
  snoopPcs1541 := [0xE000]
  snoopPcs1581 := [0xE000]
  snoopSig := #v[0x11, 0x22, 0x33, 0x44, 0x55]
  exitCountdown := 3
  quirkHashes := [0, 1, 2, 3, 4, 5, 6, 7]
  tickPeriod := 1
  timeW := 32
  maxImages := 10
  invertIECInputs := false
  ignoreReset := false
  splitIECLines := false
  platformSupportsSplit := false
  refreshOutsAfterCPUStep := true
  dualDrive := false
  sharedGPIO := false
  resetToRoot := true
  soundViaDMA := false
  soundHalfPeriod := 2
  soundDuration := 6
  primary := .drive0
  powerOnChipKind := .via1541
  inputMap := []
  deviceID0 := .dev8
  deviceID1 := .dev9
  flagActiveLow := true

/-! What the collaborators answer (R62 to R67, U9). -/

/-- What `SYNC()`, `GetPC()` and `GetA()` answer in step c of one tick (R31, R175). -/
structure CpuView where
  sync : Bool
  pc   : CpuAddr
  a    : Byte
deriving DecidableEq, Repr

/-- One call the chip collaborator makes from inside `Cpu.Step()` (R62, R136). -/
inductive ChipCall where
  | portBOut (status : Byte)
  | setSrqOut (b : Bool)
deriving DecidableEq, Repr

/-- What an opened image answers to `GetName()`, `GetHash()` and `IsD81()` (R60). -/
structure ImageInfo where
  name  : String
  hash  : ContentHash
  isD81 : Bool
deriving DecidableEq, Repr

/-! ## Free values

Where no answer was supplied in `Env`, the answer is one of these constants applied to the counter `State.draws`.
None has a body: nothing can be proved of its value. Log entry 8 (safe). -/

/-- A free answer of `GpioRead()` (R63, U5, U6). -/
opaque Config.freeSample : Nat → RawWord

/-- A free answer of `Chip.GetDirection()` (R64, U9). -/
opaque Config.freeDirection : Nat → Byte

/-- A free answer of `Cpu.SYNC()` (R62, U9). -/
opaque Config.freeSync : Nat → Bool

/-- A free answer of `Cpu.GetPC()` (R62, U9). -/
opaque Config.freePC : Nat → CpuAddr

/-- A free answer of `Cpu.GetA()` (R62, U9). -/
opaque Config.freeA : Nat → Byte

/-- Free calls made inside one `Cpu.Step()` (R62, U9): `inl` a status byte, `inr` an SRQ level. -/
opaque Config.freeCalls : Nat → List (Byte ⊕ Bool)

/-- A free answer of `Drive.IsLEDOn()` (R66, U9). -/
opaque Config.freeLed : Nat → Bool

/-- A free answer of `Drive.HeadValue()` (R66, U9). -/
opaque Config.freeHead : Nat → HeadValue

/-- A free answer of `Now()` (R67, U9). -/
opaque Config.freeNow : Nat → Timestamp

/-- A free answer of `OpenImage` (R226, U9): `none` is failure, else the image's name, hash and type. -/
opaque Config.freeOpen : Nat → FileInfo → Bool → Option (String × ContentHash × Bool)

end Sys2Proof
end

