-- ==== Sys2Proof/Machine/Flags.lean ====
section
/-! DEFINITION. The flag computations of the bus unit and the debouncer: functions of the configuration and of bits,
without the state. -/

namespace Sys2Proof.Machine

/-- `Sense(raw, PIN)` (R110): the logical flag of one line pin. -/
def sense (c : Config) (raw pin : RawWord) : Bool :=
  ((raw &&& pin) == 0) ^^ c.invertIECInputs

/-- `Resetting` as every sense computes it (R111, R114, R115, D6). -/
def senseReset (c : Config) (raw : RawWord) : Bool :=
  !c.ignoreReset && sense c raw c.pinReset

/-- The raw signal of a button is asserted when its bit is 0; the invert flag does not apply (R150). -/
def buttonAsserted (raw mask : RawWord) : Bool :=
  (raw &&& mask) == 0

/-- `Gate(a, p)` (R130): XOR with a VIA, AND without one. -/
def gate (kind : ChipKind) (a p : Bool) : Bool :=
  match kind with
  | .via1541 => a != p
  | .cia1581 => a && p

/-- Loopback (R112): a line the instance pulls itself reads asserted, else the pin decides. -/
def loopback (driven sensed : Bool) : Bool :=
  if driven then true else sensed

/-- The argument of `SetPinFLAG` (R115 corner case 1): `PI_Atn XOR FLAG_ACTIVE_LOW`. -/
def flagLevel (c : Config) (atn : Bool) : Bool :=
  atn ^^ c.flagActiveLow

/-- Split-lines mode on a platform that cannot support it (R116). -/
def splitUnsupported (c : Config) : Bool :=
  c.splitIECLines && !c.platformSupportsSplit

/-- `Sharing` (R213). -/
def sharing (c : Config) : Bool :=
  c.dualDrive && c.sharedGPIO

/-- Elapsed time, modulo `2 ^ TIME_W` (R10, R183). -/
def elapsed (c : Config) (now before : Timestamp) : Nat :=
  (now + (2 ^ c.timeW - before % 2 ^ c.timeW)) % 2 ^ c.timeW

/-- `RepeatInterval(k)`, `k >= 1` (P7, R153). -/
def repeatInterval (c : Config) (k : Nat) : Nat :=
  (c.repeatIntervals[k - 1]?).getD (c.repeatIntervals.getLastD 1)

/-- A sample with every line and every button released (R28): of the words R28 allows, the one whose other bits are 0.
DESIGN CHOICE, log entry 5 (unsafe): the spec allows any of them. -/
def releasedSample (c : Config) : RawWord :=
  let buttons := c.pinButtons.foldl (· ||| ·) 0
  if c.invertIECInputs then buttons
  else buttons ||| c.pinAtn ||| c.pinData ||| c.pinClock ||| c.pinSRQ ||| c.pinReset

end Sys2Proof.Machine
end

