-- ==== Sys2Proof/Machine/State.lean ====
section
/-! DEFINITION. The state of the block as plain data (`10_state.md`), the reasons a step can stop, and the state after
power-on (`70_reset_and_hazards.md` R272). INVENTORY.md lists every field with its rule. -/

namespace Sys2Proof.Machine

/-! ## Enumerations -/

/-- `S.Mode`, the document's `EmulatingMode` (R30, R88). -/
inductive Mode where
  | iecCommands
  | emulating1541
  | emulating1581
  | emulationShutdown
deriving DecidableEq, Repr

/-- `S.Phase` (R30, R90). -/
inductive Phase where
  | idle
  | fastboot
  | realtime
deriving DecidableEq, Repr

/-- `S.Step` (R30): the sub-step a tick is at. -/
inductive TickStep where
  | a | b | c | d | e | f | g | h | i | j | jx | k
deriving DecidableEq, Repr

/-- `EXIT_TYPE` (R33, R89). -/
inductive ExitType where
  | unknown
  | reset
  | cd
  | keyboard
  | autoload
deriving DecidableEq, Repr

/-- `S.PendSwap` (R32). -/
inductive Swap where
  | none
  | next
  | prev
  | direct (n : Nat)
deriving DecidableEq, Repr

/-- `G.Lock` (R38, R210). -/
inductive Lock where
  | free
  | held (d : DriveId)
deriving DecidableEq, Repr

/-- The kinds of `Log` (R77, R240). -/
inductive LogKind where
  | lostCycle
  | mountFailed
  | notImplemented
deriving DecidableEq, Repr

/-- The atomic steps that `DD_ENTER`, `DD_EXIT`, `EMULATE_ENTER` and `EMULATE_EXIT` are made of (R11, R211, R212,
R167, R188). -/
inductive LockStep where
  | acquire
  | countUp
  | countDown
  | release
  | enterSession
  | leaveSession
deriving DecidableEq, Repr

/-! ## Records -/

/-- The drive vector `(DATA, CLOCK, SRQ, LED, SOUND)` (R65, R133). -/
structure DriveVector where
  data  : Bool
  clock : Bool
  srq   : Bool
  led   : Bool
  sound : Bool
deriving DecidableEq, Repr

/-- An opened disk image (R37, R60): what it was opened from and what it answers. -/
structure Image where
  file     : FileInfo
  readOnly : Bool
  info     : ImageInfo
deriving DecidableEq, Repr

/-- The sensed, intent and set-to-output flags of the bus unit (R20, R21, R22). -/
structure Lines where
  piAtn            : Bool
  piData           : Bool
  piClock          : Bool
  piSRQ            : Bool
  resetting        : Bool
  viaAtna          : Bool
  viaData          : Bool
  viaClock         : Bool
  dataSetToOut     : Bool
  clockSetToOut    : Bool
  atnaDataSetToOut : Bool
  srqSetToOut      : Bool
deriving DecidableEq, Repr

/-- The per-session registers of the sequencer (R32). -/
structure Session where
  exitReason      : ExitType
  refreshAfter    : Bool
  cycleCount      : Nat
  before          : Timestamp
  snoopIdx        : Fin 5
  countdownActive : Bool
  exitCountdown   : Nat
  resetCount      : Nat
  ledPrev         : Bool
  headPrev        : HeadValue
  soundRemaining  : Nat
  soundPhase      : Nat
  pendExit        : Bool
  pendAutoload    : Bool
  pendUnmount     : Bool
  pendSwap        : Swap
  inLoop          : Bool
deriving DecidableEq, Repr

/-- The request latches (R35). -/
structure Latches where
  reqExit          : Bool
  reqAutoload      : Bool
  reqNext          : Bool
  reqPrev          : Bool
  reqDirectMask    : Nat
  reqForcedUnmount : Bool
  reqMount         : Option FileInfo
  reqShutdown      : Bool
  reqDeviceID      : Option DeviceNumber
deriving DecidableEq, Repr

/-- One entry of the debouncer file (R36): `Btn[i]`, `InputButton[i]` and `InputRepeat[i]`. -/
structure Button where
  raw     : Bool
  count   : Nat
  repThr  : Nat
  repCnt  : Nat
  pressed : Bool
  fired   : Bool
deriving DecidableEq, Repr

/-- `S.Caddy` (R37, R225). -/
structure Caddy where
  images  : List Image
  current : Nat
deriving DecidableEq, Repr

/-- The answers of the collaborators that were supplied in advance, one queue for each port (R41, U9). An empty queue
answers with a free value. The model's own field, log entry 8. -/
structure Env where
  gpio      : List RawWord
  direction : List Byte
  cpu       : List CpuView
  calls     : List (List ChipCall)
  led       : List Bool
  head      : List HeadValue
  now       : List Timestamp
  opened    : List (Option ImageInfo)
deriving DecidableEq, Repr

/-- What an operation returns to its caller (R188, R226, R227, R228, R231). The model's own field, log entry 17. -/
inductive OpResult where
  | nothing
  | ok (b : Bool)
  | count (n : Nat)
  | exit (r : ExitType)
deriving DecidableEq, Repr

/-- `S`, the record of one drive instance (`10_state.md` sections 1 to 6). `samplePolled` (the buttons were polled on
the held sample, R151, log entry 33), `todo`, `result` and `env` are the model's own fields. -/
structure Drive where
  lines           : Lines
  outputLED       : Bool
  outputSound     : Bool
  chipKind        : ChipKind
  rawSample       : RawWord
  samplePolled    : Bool
  notImplReported : Bool
  out             : DriveVector
  mode            : Mode
  phase           : Phase
  tickStep        : TickStep
  session         : Session
  deviceID        : DeviceNumber
  latches         : Latches
  buttons         : List Button
  caddy           : Caddy
  driveImage      : Option Image
  todo            : List LockStep
  result          : OpResult
  env             : Env
deriving DecidableEq, Repr

/-- The observable events: the list of R77, complete. U9 wants each answer of a collaborator recorded in the trace, and
R77 lists no event for one but the word of `GpioRead`: DEDUCED, log entry 35. -/
inductive Event where
  | gpioRead (d : DriveId) (word : RawWord)
  | gpioDrive (d : DriveId) (v : DriveVector)
  | setInput (d : DriveId) (pin : Byte) (b : Bool)
  | inputCA1 (d : DriveId) (b : Bool)
  | setPinFLAG (d : DriveId) (b : Bool)
  | cpuStep (d : DriveId)
  | setACTLed (d : DriveId) (b : Bool)
  | headSoundStart (d : DriveId)
  | log (d : DriveId) (kind : LogKind)
  | modeChange (d : DriveId) (m : Mode)
  | exit (d : DriveId) (reason : ExitType)
  | returnToRoot (d : DriveId)
deriving DecidableEq, Repr

/-- The side data that travels beside a command word (R81, R190, R226). -/
structure SideData where
  file     : FileInfo
  readOnly : Bool
deriving DecidableEq, Repr

/-- A request of the auxiliary core (R35). -/
inductive Request where
  | exit
  | autoload
  | next
  | prev
  | direct (mask : Nat)
  | forcedUnmount
  | mount (file : FileInfo)
  | shutdown
  | deviceID (n : DeviceNumber)
deriving DecidableEq, Repr

/-- A move of one agent (R5, R72). Log entry 9. -/
inductive Move where
  /-- the owner of instance `d`, its chip or the fast path issues a command word with its side data (R80, R83); of an
  operation of several atomic steps, at most `unbroken + 1` are taken before another agent acts (R11) -/
  | issue (d : DriveId) (word : CommandWord) (side : SideData) (unbroken : Nat)
  /-- the loop of instance `d` takes its own next atomic step (R11, R165) -/
  | advance (d : DriveId)
  /-- the auxiliary core sets a request latch of instance `d` (R35) -/
  | request (d : DriveId) (r : Request)
deriving DecidableEq, Repr

/-- The whole machine: the two instances `S[0]` and `S[1]`, the process-wide record `G` (R38), the configuration
(R40), and the model's own fields (INVENTORY.md). `unbroken` is how many further atomic steps of its own the issued
operation may take before another agent acts (R11, log entry 11). -/
structure State where
  cfg       : Config
  d0        : Drive
  d1        : Drive
  dualDrive : Int
  lock      : Lock
  cur       : DriveId
  side      : SideData
  trace     : List Event
  agenda    : List Move
  unbroken  : Nat
  draws     : Nat
deriving DecidableEq, Repr

/-! ## Why a step stops -/

/-- The reasons the machine stops with a fault. No operation of the block faults (R194, R244). -/
inductive Fault where
  /-- Raised by `step` alone, when the loop of an instance in `EMULATION_SHUTDOWN` is to take a step: the instance is
  stuck (R191, U12). Safe: the spec gives the instance no further step. -/
  | stuckInShutdown
deriving DecidableEq, Repr

/-- The reasons an operation has no transition. -/
inductive Refusal where
  /-- Raised by `exec` for an instruction without a meaning. No arm raises it. Safe. -/
  | notModelled (mnemonic : String)
  /-- Raised by `step` for a reserved command word (R94, U1). Safe: the spec asks for the refusal. -/
  | reservedWord (why : Reserved)
  /-- Raised by `exec` when the control point fails the operation's precondition (U1). Safe: the spec asks for it. -/
  | outOfPlace
  /-- Raised by `exec` in `EMULATION_SHUTDOWN`, which is no operation's precondition (R191, U12). Safe. -/
  | shutDown
  /-- Raised by `exec` when the instance still has lock steps to take: it takes no other step (R210). Safe. -/
  | busy
  /-- Raised when an agent addresses instance 1 and `cfg.dualDrive` is false (R213). Safe: there is no such
  instance. -/
  | absentInstance
deriving DecidableEq, Repr

/-! ## Power-on -/

/-- All released: five sensed, three intent and four set-to-output flags false (R26). -/
def Lines.released : Lines :=
  ⟨false, false, false, false, false, false, false, false, false, false, false, false⟩

/-- The session registers at power-on (R32, R272). `head` and `before` are what R272 leaves to the drive model and
unspecified. -/
def Session.powerOn (head : HeadValue) (before : Timestamp) : Session where
  exitReason := .unknown
  refreshAfter := false
  cycleCount := 0
  before := before
  snoopIdx := 0
  countdownActive := false
  exitCountdown := 0
  resetCount := 0
  ledPrev := false
  headPrev := head
  soundRemaining := 0
  soundPhase := 0
  pendExit := false
  pendAutoload := false
  pendUnmount := false
  pendSwap := .none
  inLoop := false

/-- The latches at power-on: all clear (R35). -/
def Latches.clear : Latches :=
  ⟨false, false, false, false, 0, false, none, false, none⟩

/-- A button at power-on (R36). -/
def Button.powerOn : Button :=
  ⟨false, 0, 0, 0, false, false⟩

/-- No answer supplied. -/
def Env.empty : Env :=
  ⟨[], [], [], [], [], [], [], []⟩

/-- What the platform and the collaborators have settled for one instance before it is constructed: `DeviceID[d]`
(P27), the level of its output pins (R29, U3), the drive model's head value (R272) and the unspecified `Before`
(R32). -/
structure DriveBoot where
  device : DeviceNumber
  out    : DriveVector
  head   : HeadValue
  before : Timestamp
deriving DecidableEq, Repr

/-- An instance at power-on (R272). -/
def Drive.powerOn (c : Config) (b : DriveBoot) : Drive where
  lines := Lines.released
  outputLED := false
  outputSound := false
  chipKind := c.powerOnChipKind
  rawSample := releasedSample c
  samplePolled := false
  notImplReported := false
  out := b.out
  mode := .iecCommands
  phase := .idle
  tickStep := .a
  session := Session.powerOn b.head b.before
  deviceID := b.device
  latches := Latches.clear
  buttons := c.pinButtons.map fun _ => Button.powerOn
  caddy := ⟨[], 0⟩
  driveImage := none
  todo := []
  result := .nothing
  env := Env.empty

/-- The operations the block's own boot issues, one `BUS_RESET` for each instance that exists (R270, R271). -/
def bootMoves (c : Config) : List Move :=
  .issue .drive0 (encode .busReset) ⟨0, false⟩ 0 ::
    if c.dualDrive then [.issue .drive1 (encode .busReset) ⟨0, false⟩ 0] else []

/-- The machine at power-on, for any boot inputs (R270, R272). -/
def State.powerOn (c : Config) (out0 out1 : DriveVector) (head0 head1 : HeadValue) (before0 before1 : Timestamp) :
    State where
  cfg := c
  d0 := Drive.powerOn c ⟨c.deviceID0, out0, head0, before0⟩
  d1 := Drive.powerOn c ⟨c.deviceID1, out1, head1, before1⟩
  dualDrive := 0
  lock := .free
  cur := .drive0
  side := ⟨0, false⟩
  trace := []
  agenda := bootMoves c
  unbroken := 0
  draws := 0

/-- No line pulled, LED and sound off. -/
def DriveVector.released : DriveVector :=
  ⟨false, false, false, false, false⟩

/-- The state right after power-on (R272), with the boot inputs the model names: DESIGN CHOICE, log entries 1 to 7
(unsafe). `State.powerOn` is the same state for every choice of them. -/
def State.reset : State :=
  State.powerOn Config.atReset DriveVector.released DriveVector.released 0 0 0 0

end Sys2Proof.Machine
end

