-- ==== Sys2Proof/Machine/Operands.lean ====
section
/-! DEFINITION. Operand forms and enumeration codes (`30_encoding.md` R84 to R93). -/

namespace Sys2Proof.Machine

/-- Whether a byte has any bit of the mask (R84, R85). -/
def hasBit (b mask : Byte) : Bool :=
  (b &&& mask) != 0

/-- `atna` of the status byte (R84). -/
def statusAtna (c : Config) (status : Byte) : Bool := hasBit status c.stAtna

/-- `data` of the status byte (R84). -/
def statusData (c : Config) (status : Byte) : Bool := hasBit status c.stDataOut

/-- `clock` of the status byte (R84). -/
def statusClock (c : Config) (status : Byte) : Bool := hasBit status c.stClockOut

/-- The DATA OUT pin is configured as an input: its direction bit is 0 (R85). -/
def dataIsInput (c : Config) (dir : Byte) : Bool := !hasBit dir c.stDataOut

/-- The CLOCK OUT pin is configured as an input (R85). -/
def clockIsInput (c : Config) (dir : Byte) : Bool := !hasBit dir c.stClockOut

/-- The drive vector as the 5-bit number `{SOUND, LED, SRQ, CLOCK, DATA}` (R87). -/
def DriveVector.pack (v : DriveVector) : BitVec 5 :=
  BitVec.ofBool v.sound ++ BitVec.ofBool v.led ++ BitVec.ofBool v.srq ++ BitVec.ofBool v.clock ++ BitVec.ofBool v.data

/-- The number of an `EmulatingMode` (R88). -/
def Mode.code : Mode → Nat
  | .iecCommands => 0
  | .emulating1541 => 1
  | .emulating1581 => 2
  | .emulationShutdown => 3

/-- The number of an `EXIT_TYPE` (R89). -/
def ExitType.code : ExitType → Nat
  | .unknown => 0
  | .reset => 1
  | .cd => 2
  | .keyboard => 3
  | .autoload => 4

/-- The number of a `ChipKind` (R90). -/
def chipCode : ChipKind → Nat
  | .via1541 => 0
  | .cia1581 => 1

/-- The number of a `Phase` (R90). -/
def Phase.code : Phase → Nat
  | .idle => 0
  | .fastboot => 1
  | .realtime => 2

/-- The number of a diagnostic (R240). -/
def LogKind.code : LogKind → Nat
  | .lostCycle => 1
  | .mountFailed => 2
  | .notImplemented => 3

/-- The number of an IEC device (R93). -/
def deviceNumber : DeviceNumber → Nat
  | .dev8 => 8
  | .dev9 => 9
  | .dev10 => 10
  | .dev11 => 11

/-- The mode is one of the two emulating modes (R30). -/
def Mode.emulating : Mode → Bool
  | .emulating1541 => true
  | .emulating1581 => true
  | .iecCommands => false
  | .emulationShutdown => false

/-- The emulating mode of a chip kind (R166). -/
def modeOfKind : ChipKind → Mode
  | .via1541 => .emulating1541
  | .cia1581 => .emulating1581

/-- The chip kind an image needs (R166). -/
def kindOfImage (img : Image) : ChipKind :=
  if img.info.isD81 then .cia1581 else .via1541

/-- The index of the lowest set bit among the lowest `fuel` bits, `fuel` if none is set (R92). -/
def lowestSetBit : Nat → Nat → Nat
  | 0, _ => 0
  | fuel + 1, m => if m % 2 = 1 then 0 else lowestSetBit fuel (m / 2) + 1

/-- The image a direct-swap mask asks for: its lowest set bit (R92). -/
def directTarget (c : Config) (mask : Nat) : Nat :=
  lowestSetBit c.maxImages mask

/-- A direct-swap mask has `MAX_IMAGES` bits (R92): any other bit is dropped, log entry 25. -/
def directBits (c : Config) (mask : Nat) : Nat :=
  mask % 2 ^ c.maxImages

/-- `InputMap(InputButton, InputRepeat)` (R156): the row for this debounced state; without one, no latch. -/
def inputMap (c : Config) (pressed fired : List Bool) : InputLatches :=
  match c.inputMap.find? fun row => row.pressed == pressed && row.fired == fired with
  | some row => row.latches
  | none => ⟨false, false, false, false, 0⟩

/-- The snoop addresses of the session's mode (R171, P10). -/
def snoopPcs (c : Config) (m : Mode) : List CpuAddr :=
  match m with
  | .emulating1541 => c.snoopPcs1541
  | .emulating1581 => c.snoopPcs1581
  | .iecCommands => []
  | .emulationShutdown => []

end Sys2Proof.Machine
end

