-- ==== Sys2Proof/Machine/Ops.lean ====
section
/-! DEFINITION. The named operations over the state: an instance's record, the trace, the ports (`20_memory.md` R61),
read-eligibility (`44_arbiter.md` R214), accepting an operation at a control point (U1), and the one exceptional event
that ends a session (`60_exceptions.md` R250). -/

namespace Sys2Proof.Machine

/-! ## Records -/

/-- `S`, the record of instance `d` (R9). -/
def State.drive (s : State) (d : DriveId) : Drive :=
  match d with
  | .drive0 => s.d0
  | .drive1 => s.d1

/-- `s` with the record of instance `d` replaced. -/
def State.setDrive (s : State) (d : DriveId) (x : Drive) : State :=
  match d with
  | .drive0 => { s with d0 := x }
  | .drive1 => { s with d1 := x }

/-- `s` with the record of instance `d` changed by `f`. -/
def State.mod (s : State) (d : DriveId) (f : Drive → Drive) : State :=
  s.setDrive d (f (s.drive d))

/-- A change of the line flags only. -/
def Drive.modLines (x : Drive) (f : Lines → Lines) : Drive :=
  { x with lines := f x.lines }

/-- A change of the session registers only. -/
def Drive.modSession (x : Drive) (f : Session → Session) : Drive :=
  { x with session := f x.session }

/-- A change of the request latches only. -/
def Drive.modLatches (x : Drive) (f : Latches → Latches) : Drive :=
  { x with latches := f x.latches }

/-- `emit E(args)`: appends an observable event (R9, R77). -/
def State.emit (s : State) (e : Event) : State :=
  { s with trace := s.trace ++ [e] }

/-- Several events, in order. -/
def State.emits (s : State) (es : List Event) : State :=
  { s with trace := s.trace ++ es }

/-! ## Instances and eligibility -/

/-- Instance 1 exists only in dual-drive mode (R213). -/
def State.present (s : State) (d : DriveId) : Bool :=
  match d with
  | .drive0 => true
  | .drive1 => s.cfg.dualDrive

/-- `ReadEligible(d)` (R214). -/
def State.readEligible (s : State) (d : DriveId) : Bool :=
  if sharing s.cfg then
    if s.dualDrive = 1 then (s.drive d).session.inLoop else decide (d = s.cfg.primary)
  else true

/-! ## Ports: what a collaborator answers

An answer is the head of the queue that `Env` holds for the port; an empty queue answers with a free value (R41, U9;
log entry 8). `State.spend` uses an answer up. -/

/-- The answering ports (R61). -/
inductive Port where
  | gpio | direction | cpu | calls | led | head | now | opened
deriving DecidableEq, Repr

/-- An answer of the port is supplied. -/
def Env.supplied (e : Env) : Port → Bool
  | .gpio => !e.gpio.isEmpty
  | .direction => !e.direction.isEmpty
  | .cpu => !e.cpu.isEmpty
  | .calls => !e.calls.isEmpty
  | .led => !e.led.isEmpty
  | .head => !e.head.isEmpty
  | .now => !e.now.isEmpty
  | .opened => !e.opened.isEmpty

/-- The port's first answer is gone. -/
def Env.pop (e : Env) : Port → Env
  | .gpio => { e with gpio := e.gpio.tail }
  | .direction => { e with direction := e.direction.tail }
  | .cpu => { e with cpu := e.cpu.tail }
  | .calls => { e with calls := e.calls.tail }
  | .led => { e with led := e.led.tail }
  | .head => { e with head := e.head.tail }
  | .now => { e with now := e.now.tail }
  | .opened => { e with opened := e.opened.tail }

/-- Uses up one answer of a port of instance `d`: the supplied one, else the next free value. -/
def State.spend (s : State) (d : DriveId) (p : Port) : State :=
  if (s.drive d).env.supplied p then s.mod d fun x => { x with env := x.env.pop p }
  else { s with draws := s.draws + 1 }

/-- The word `GpioRead()` returns now: `GPIO_W` bits (R63). -/
def State.gpioAnswer (s : State) (d : DriveId) : RawWord :=
  (s.drive d).env.gpio.headD (Config.freeSample s.draws) % 2 ^ s.cfg.gpioW

/-- The mask `Chip.GetDirection()` returns now (R64, R85). -/
def State.directionAnswer (s : State) (d : DriveId) : Byte :=
  (s.drive d).env.direction.headD (Config.freeDirection s.draws)

/-- What `SYNC()`, `GetPC()` and `GetA()` answer now (R31). -/
def State.cpuAnswer (s : State) (d : DriveId) : CpuView :=
  (s.drive d).env.cpu.headD ⟨Config.freeSync s.draws, Config.freePC s.draws, Config.freeA s.draws⟩

/-- A free call as a chip call. -/
def chipCallOf : Byte ⊕ Bool → ChipCall
  | .inl status => .portBOut status
  | .inr b => .setSrqOut b

/-- The calls the chip makes inside the `Cpu.Step()` that runs now (R62, R136). -/
def State.callsAnswer (s : State) (d : DriveId) : List ChipCall :=
  (s.drive d).env.calls.headD ((Config.freeCalls s.draws).map chipCallOf)

/-- What `Drive.IsLEDOn()` answers now (R66). -/
def State.ledAnswer (s : State) (d : DriveId) : Bool :=
  (s.drive d).env.led.headD (Config.freeLed s.draws)

/-- What `Drive.HeadValue()` answers now (R66). -/
def State.headAnswer (s : State) (d : DriveId) : HeadValue :=
  (s.drive d).env.head.headD (Config.freeHead s.draws)

/-- What `Now()` answers now: `TIME_W` bits (R9). -/
def State.nowAnswer (s : State) (d : DriveId) : Timestamp :=
  (s.drive d).env.now.headD (Config.freeNow s.draws) % 2 ^ s.cfg.timeW

/-- A free answer of `OpenImage` as image information. -/
def imageInfoOf (r : Option (String × ContentHash × Bool)) : Option ImageInfo :=
  r.map fun x => ⟨x.1, x.2.1, x.2.2⟩

/-- What `OpenImage(fileInfo, readOnly)` answers now: an image, which was handed `readOnly`, or failure (R226). -/
def State.openAnswer (s : State) (d : DriveId) (file : FileInfo) (readOnly : Bool) : Option Image :=
  ((s.drive d).env.opened.headD (imageInfoOf (Config.freeOpen s.draws file readOnly))).map fun info =>
    ⟨file, readOnly, info⟩

/-! ## Primitives of the bus unit -/

/-- `NotImpl()` (R117, R243): reported once for each instance. -/
def notImpl (d : DriveId) (s : State) : State :=
  if (s.drive d).notImplReported then s
  else (s.mod d fun x => { x with notImplReported := true }).emit (.log d .notImplemented)

/-- `S.RawSample <- GpioRead(); emit GpioRead(d) -> raw` (R111, R114). No poll has used the new sample (R151). -/
def gpioRead (d : DriveId) (s : State) : State :=
  let w := s.gpioAnswer d
  (((s.spend d .gpio).mod d fun x => { x with rawSample := w, samplePolled := false })).emit (.gpioRead d w)

/-- `OutVector(S)` (R133). -/
def outVector (x : Drive) : DriveVector where
  data := x.lines.dataSetToOut || x.lines.atnaDataSetToOut
  clock := x.lines.clockSetToOut
  srq := x.lines.srqSetToOut
  led := x.outputLED
  sound := x.outputSound

/-- `GpioDrive(v)` (R133): stores the vector in `S.Out` and presents it. One atomic update (U4). -/
def gpioDrive (d : DriveId) (v : DriveVector) (s : State) : State :=
  (s.mod d fun x => { x with out := v }).emit (.gpioDrive d v)

/-! ## Accepting an operation, and leaving a session -/

/-- An operation issued at a control point: it runs when its instance exists (R213), is not shut down (R191, U12), has
no lock step left to take (R210) and meets the precondition; else it is refused (U1). Log entry 15. -/
def accept (s : State) (pre : Drive → Bool) (op : DriveId → State → State) : Host.Outcome State Fault Refusal :=
  if s.present s.cur then
    if (s.drive s.cur).mode = .emulationShutdown then .refused .shutDown
    else if (s.drive s.cur).todo = [] then
      if pre (s.drive s.cur) then .next (op s.cur s) else .refused .outOfPlace
    else .refused .busy
  else .refused .absentInstance

/-- No precondition. -/
def anywhere (_ : Drive) : Bool := true

/-- `S.Mode == IEC_COMMANDS`. -/
def inIecCommands (x : Drive) : Bool := decide (x.mode = .iecCommands)

/-- `S.Mode == IEC_COMMANDS`, `S.Phase == IDLE`. -/
def idleInIecCommands (x : Drive) : Bool := decide (x.mode = .iecCommands) && decide (x.phase = .idle)

/-- The control point `(EMULATING_15x1, REALTIME, t)` (R30). -/
def atTickStep (t : TickStep) (x : Drive) : Bool :=
  x.mode.emulating && decide (x.phase = .realtime) && decide (x.tickStep = t)

/-- `raise Exit(r)` (R181, R250): the reason is saved, the phase becomes idle, and the rest of the tick is not run.
There is no return from it (R251). -/
def raiseExit (d : DriveId) (r : ExitType) (s : State) : State :=
  (s.mod d fun x => { x.modSession (fun z => { z with exitReason := r }) with phase := .idle }).emit (.exit d r)

/-- What an operation returns to its caller. -/
def setResult (d : DriveId) (r : OpResult) (s : State) : State :=
  s.mod d fun x => { x with result := r }

/-- The auxiliary core sets a latch (R35); setting a set latch changes nothing (R75). That a direct mask adds its bits,
and that a second file or device number replaces the pending one, is the model's: DESIGN CHOICE, log entry 25. -/
def setLatch (c : Config) (r : Request) (l : Latches) : Latches :=
  match r with
  | .exit => { l with reqExit := true }
  | .autoload => { l with reqAutoload := true }
  | .next => { l with reqNext := true }
  | .prev => { l with reqPrev := true }
  | .direct mask => { l with reqDirectMask := l.reqDirectMask ||| directBits c mask }
  | .forcedUnmount => { l with reqForcedUnmount := true }
  | .mount file => { l with reqMount := some file }
  | .shutdown => { l with reqShutdown := true }
  | .deviceID n => { l with reqDeviceID := some n }

/-- `GetDiskCaddy()` (R195). -/
def getDiskCaddy (s : State) (d : DriveId) : Caddy := (s.drive d).caddy

/-- `GetEmulatingMode()` (R195). -/
def getEmulatingMode (s : State) (d : DriveId) : Mode := (s.drive d).mode

/-- `GetDeviceID()` (R195). -/
def getDeviceID (s : State) (d : DriveId) : DeviceNumber := (s.drive d).deviceID

end Sys2Proof.Machine
end

