-- ==== Sys2Proof/Machine/BusDrive.lean ====
section
/-! DEFINITION. The gate's users, the port-output callback, the refresh and the bus reset (`41_bus_drive.md`). -/

namespace Sys2Proof.Machine

/-- The flags of `PORTB_OUT`, steps 1 to 5 (R131): intents with the direction rule, the gate, the set-to-output flags,
the software loopback. -/
def portBLines (c : Config) (kind : ChipKind) (status dir : Byte) (l : Lines) : Lines :=
  let atna := statusAtna c status
  let data := statusData c status || dataIsInput c dir
  let clock := statusClock c status || clockIsInput c dir
  let g := gate kind atna l.piAtn
  { l with
    viaAtna := atna
    viaData := data
    viaClock := clock
    atnaDataSetToOut := g
    dataSetToOut := data
    clockSetToOut := clock
    piData := loopback (g || data) l.piData
    piClock := loopback clock l.piClock }

/-- The chip inputs `PORTB_OUT` writes: only those of lines now pulled (R131 step 5). -/
def portBWrites (c : Config) (d : DriveId) (l : Lines) : List Event :=
  (if l.atnaDataSetToOut || l.dataSetToOut then [Event.setInput d c.inData true] else []) ++
    (if l.clockSetToOut then [Event.setInput d c.inClock true] else [])

/-- `PORTB_OUT status` (R131). -/
def portBOut (status : Byte) (d : DriveId) (s : State) : State :=
  let dir := s.directionAnswer d
  let s1 := (s.spend d .direction).mod d fun x => x.modLines (portBLines s.cfg x.chipKind status dir)
  s1.emits (portBWrites s.cfg d (s1.drive d).lines)

/-- `SET_SRQ_OUT b` (R136): loopback toward true only (R281). The list of writers of R26 omits the write of `PI_SRQ`: log
entry 34. -/
def setSrqOut (b : Bool) (d : DriveId) (s : State) : State :=
  s.mod d fun x => x.modLines fun l => { l with srqSetToOut := b, piSRQ := loopback b l.piSRQ }

/-- The body that `REFRESH_1541` and `REFRESH_1581` share (R134, R135). -/
def refresh (d : DriveId) (s : State) : State :=
  if splitUnsupported s.cfg then notImpl d s else gpioDrive d (outVector (s.drive d)) s

/-- All released, the gate recomputed from the operands (R137, R138). -/
def resetLines (kind : ChipKind) : Lines :=
  { Lines.released with atnaDataSetToOut := gate kind Lines.released.viaAtna Lines.released.piAtn }

/-- `BUS_RESET` (R137): under `CIA1581` the outputs are refreshed at once. -/
def busReset (d : DriveId) (s : State) : State :=
  let s1 := s.mod d fun x => { x with lines := resetLines x.chipKind }
  if (s1.drive d).chipKind = .cia1581 then refresh d s1 else s1

/-- One call of the chip collaborator (R62, R136). -/
def chipCall (d : DriveId) (s : State) (call : ChipCall) : State :=
  match call with
  | .portBOut status => portBOut status d s
  | .setSrqOut b => setSrqOut b d s

/-- `Cpu.Step(); emit CpuStep(d)` (R62, R168, R176): the chip's calls first, then the event. Log entry 21. -/
def cpuStep (d : DriveId) (s : State) : State :=
  ((s.callsAnswer d).foldl (chipCall d) (s.spend d .calls)).emit (.cpuStep d)

/-- `S.ChipKind == kind` (R134, R135). -/
def hasChip (kind : ChipKind) (x : Drive) : Bool := decide (x.chipKind = kind)

/-- `PORTB_OUT` (R131). -/
def execPortBOut (status : Byte) (s : State) : Host.Outcome State Fault Refusal :=
  accept s anywhere (portBOut status)

/-- `SET_SRQ_OUT` (R136). -/
def execSetSrqOut (b : Bool) (s : State) : Host.Outcome State Fault Refusal :=
  accept s anywhere (setSrqOut b)

/-- `REFRESH_1541` (R134). -/
def execRefresh1541 (s : State) : Host.Outcome State Fault Refusal :=
  accept s (hasChip .via1541) refresh

/-- `REFRESH_1581` (R135). -/
def execRefresh1581 (s : State) : Host.Outcome State Fault Refusal :=
  accept s (hasChip .cia1581) refresh

/-- `BUS_RESET` (R137). -/
def execBusReset (s : State) : Host.Outcome State Fault Refusal :=
  accept s anywhere busReset

end Sys2Proof.Machine
end

