-- ==== Sys2Proof/Machine/Arbiter.lean ====
section
/-! DEFINITION. The dual-drive arbiter (`44_arbiter.md`) and the two sequencer operations that begin with it,
`EMULATE_ENTER` (R167) and `EMULATE_EXIT` (R188): operations of several atomic steps (R11, C13).

`Drive.todo` holds the steps still to take. An issued operation takes one step, and `State.unbroken` further ones before
another agent acts; it stops before an `Acquire` that the lock does not admit: it spins there (R210). What is left is
taken step by step by `advance` in `Machine/Moves.lean`, so that another agent's step may fall between any two of them.
Log entry 11. -/

namespace Sys2Proof.Machine

/-- The session registers `EMULATE_ENTER` writes (R167); `R`, `Before` and `InLoop` are kept. -/
def freshSession (head : HeadValue) (z : Session) : Session :=
  { z with
    exitReason := .unknown
    cycleCount := 0
    snoopIdx := 0
    countdownActive := false
    exitCountdown := 0
    resetCount := 0
    ledPrev := false
    headPrev := head
    soundRemaining := 0
    soundPhase := 0
    pendExit := false
    pendAutoload := false
    pendUnmount := false
    pendSwap := .none }

/-- The phase a session starts in (R167). -/
def firstPhase (c : Config) : Phase :=
  if 0 < c.fastBootCycles then .fastboot else .realtime

/-- `EMULATE_ENTER` after `DD_ENTER` (R167). It reads the head value, which the table of R61 does not list: DEDUCED, log
entry 36. -/
def enterSession (d : DriveId) (s : State) : State :=
  let s1 := busReset d s
  let head := s1.headAnswer d
  (s1.spend d .head).mod d fun x =>
    { x.modSession (freshSession head) with phase := firstPhase s.cfg, tickStep := .a }

/-- `EMULATE_EXIT` after `DD_EXIT` (R188): the bus unit is not reset and the pins are not refreshed. -/
def leaveSession (d : DriveId) (s : State) : State :=
  let reason := (s.drive d).session.exitReason
  let s1 := (s.mod d fun x => { x with caddy := ⟨[], 0⟩, driveImage := none, mode := .iecCommands }).emit
    (.modeChange d .iecCommands)
  let s2 := if reason = .reset ∧ s.cfg.resetToRoot = true then s1.emit (.returnToRoot d) else s1
  setResult d (.exit reason) s2

/-- Whether a step is enabled (R210). -/
def stepEnabled (d : DriveId) (t : LockStep) (s : State) : Bool :=
  match t with
  | .acquire => decide (s.lock = .free)
  | .release => decide (s.lock = .held d)
  | .countUp => true
  | .countDown => true
  | .enterSession => true
  | .leaveSession => true

/-- `S.InLoop` changed. -/
def setInLoop (d : DriveId) (b : Bool) (s : State) : State :=
  s.mod d fun x => x.modSession fun z => { z with inLoop := b }

/-- One atomic step (R210, R211, R212, R167, R188). -/
def lockStep (d : DriveId) (t : LockStep) (s : State) : State :=
  match t with
  | .acquire => { s with lock := .held d }
  | .release => { s with lock := .free }
  | .countUp => setInLoop d true { s with dualDrive := s.dualDrive + 1 }
  | .countDown => setInLoop d false { s with dualDrive := s.dualDrive - 1 }
  | .enterSession => enterSession d s
  | .leaveSession => leaveSession d s

/-- The steps still to take. -/
def setTodo (d : DriveId) (ts : List LockStep) (s : State) : State :=
  s.mod d fun x => { x with todo := ts }

/-- Takes at most `n` of the steps, and keeps the others for later: it stops early where none is left, or where the
next one is not enabled (R210). -/
def runSteps (d : DriveId) : Nat → List LockStep → State → State
  | n + 1, t :: ts, s => if stepEnabled d t s then runSteps d n ts (lockStep d t s) else setTodo d (t :: ts) s
  | _, ts, s => setTodo d ts s

/-- The steps an issued operation takes now (R11). -/
def startSteps (ts : List LockStep) (d : DriveId) (s : State) : State :=
  runSteps d (s.unbroken + 1) ts s

/-- The steps of `DD_ENTER` (R211). -/
def ddEnterSteps : List LockStep := [.acquire, .countUp, .release]

/-- The steps of `DD_EXIT` (R212). -/
def ddExitSteps : List LockStep := [.acquire, .countDown, .release]

/-- The steps of `EMULATE_ENTER` (R167). -/
def emulateEnterSteps : List LockStep := ddEnterSteps ++ [.enterSession]

/-- The steps of `EMULATE_EXIT` (R188). -/
def emulateExitSteps : List LockStep := ddExitSteps ++ [.leaveSession]

/-- `S.InLoop == false` (R211). -/
def outOfLoop (x : Drive) : Bool := !x.session.inLoop

/-- `S.InLoop == true` (R212). -/
def isInLoop (x : Drive) : Bool := x.session.inLoop

/-- The precondition of `EMULATE_ENTER` (R167). -/
def mayEnter (x : Drive) : Bool :=
  x.mode.emulating && decide (x.phase = .idle) && !x.session.inLoop

/-- The precondition of `EMULATE_EXIT` (R188). -/
def mayLeave (x : Drive) : Bool :=
  x.mode.emulating && decide (x.phase = .idle) && decide (x.session.exitReason ≠ .unknown) && x.session.inLoop

/-- `DD_ENTER` (R211). DEDUCED, log entry 16: R211 has it issued by `EMULATE_ENTER` only, while its example and V-A7
issue the bare word in `IEC_COMMANDS`; the model runs a bare word at every control point where `S.InLoop` is false, its
one stated precondition. -/
def execDdEnter (s : State) : Host.Outcome State Fault Refusal :=
  accept s outOfLoop (startSteps ddEnterSteps)

/-- `DD_EXIT` (R212). DEDUCED, log entry 16: R212 has it issued by `EMULATE_EXIT` only, while V-A9 issues the bare word;
the model runs a bare word at every control point where `S.InLoop` is true, its one stated precondition, also between
two sub-steps of a tick: the loop then enters again after its exit instead of leaving. -/
def execDdExit (s : State) : Host.Outcome State Fault Refusal :=
  accept s isInLoop (startSteps ddExitSteps)

/-- `EMULATE_ENTER` (R167). -/
def execEmulateEnter (s : State) : Host.Outcome State Fault Refusal :=
  accept s mayEnter (startSteps emulateEnterSteps)

/-- `EMULATE_EXIT` (R188). -/
def execEmulateExit (s : State) : Host.Outcome State Fault Refusal :=
  accept s mayLeave (startSteps emulateExitSteps)

end Sys2Proof.Machine
end

