-- ==== Sys2Proof/Machine/Debounce.lean ====
section
/-! DEFINITION. The button debouncer (`42_debounce.md`). -/

namespace Sys2Proof.Machine

/-- One poll of one button whose raw signal is `a` (R151). -/
def pollButton (c : Config) (a : Bool) (b : Button) : Button :=
  if a then
    let n := b.count + 1
    if n = c.debounceThreshold then
      { raw := true, count := n, pressed := true, repCnt := 1,
        repThr := c.debounceThreshold + repeatInterval c 1, fired := true }
    else if b.pressed && decide (n = b.repThr) then
      { b with raw := true, count := n, repCnt := b.repCnt + 1,
               repThr := b.repThr + repeatInterval c (b.repCnt + 1), fired := true }
    else { b with raw := true, count := n, fired := false }
  else { raw := false, count := 0, repThr := 0, repCnt := 0, pressed := false, fired := false }

/-- One poll of the file, button by button (R151); `RotaryPoll` has no effect (R155, log entry 26). -/
def pollFile (c : Config) (raw : RawWord) : List RawWord → List Button → List Button
  | mask :: masks, b :: bs => pollButton c (buttonAsserted raw mask) b :: pollFile c raw masks bs
  | _, bs => bs

/-- `POLL_BUTTONS` on the held sample (R151, R154). -/
def pollButtons (d : DriveId) (s : State) : State :=
  s.mod d fun x =>
    { x with buttons := pollFile s.cfg x.rawSample s.cfg.pinButtons x.buttons, samplePolled := true }

/-- Whether instance `d` may poll: never if it is not eligible, and never twice on one sample (R151, D31). -/
def mayPoll (d : DriveId) (s : State) (x : Drive) : Bool :=
  s.readEligible d && !x.samplePolled

/-- `POLL_BUTTONS` (R151). DEDUCED, log entry 33: R151 has it issued at the end of `READ_BROWSE` and at step h only, and
states no precondition on the control point; the model runs the bare word, the form of V-B1 to V-B9, at every one, in
fast boot and mid-tick too. -/
def execPollButtons (s : State) : Host.Outcome State Fault Refusal :=
  accept s (mayPoll s.cur s) pollButtons

end Sys2Proof.Machine
end

