-- ==== Sys2Proof/Machine/BusSense.lean ====
section
/-! DEFINITION. The operations that read the pins (`40_bus_sense.md`). -/

namespace Sys2Proof.Machine

/-- The flags of `READ_BROWSE` from one sample: no loopback, no gate, no SRQ (R111). -/
def browseLines (c : Config) (raw : RawWord) (l : Lines) : Lines :=
  { l with
    piAtn := sense c raw c.pinAtn
    piData := sense c raw c.pinData
    piClock := sense c raw c.pinClock
    resetting := senseReset c raw }

/-- `READ_BROWSE` (R111): the unsupported configuration (R116), then eligibility (R113), then one sample. -/
def readBrowse (d : DriveId) (s : State) : State :=
  if splitUnsupported s.cfg then notImpl d s
  else if s.readEligible d then
    let s1 := gpioRead d s
    pollButtons d (s1.mod d fun x => x.modLines (browseLines s.cfg x.rawSample))
  else s

/-- The eligibility gate of `READ_EMU_*` (R113): a skipped read keeps the held sample (R28). -/
def sampleIfEligible (d : DriveId) (s : State) : State :=
  if s.readEligible d then gpioRead d s else s

/-- The flags both emulation reads compute from a sample: ATN and the gate, DATA and CLOCK with loopback, RESET
(R112, R114, R115). -/
def emuLines (c : Config) (kind : ChipKind) (raw : RawWord) (l : Lines) : Lines :=
  let atn := sense c raw c.pinAtn
  let g := gate kind l.viaAtna atn
  { l with
    piAtn := atn
    atnaDataSetToOut := g
    piData := loopback (g || l.dataSetToOut) (sense c raw c.pinData)
    piClock := loopback l.clockSetToOut (sense c raw c.pinClock)
    resetting := senseReset c raw }

/-- The flags of `READ_EMU_1581`: as above, and SRQ with loopback (R115, D7). -/
def emuLines1581 (c : Config) (kind : ChipKind) (raw : RawWord) (l : Lines) : Lines :=
  { emuLines c kind raw l with piSRQ := loopback l.srqSetToOut (sense c raw c.pinSRQ) }

/-- The chip inputs `READ_EMU_1541` writes, in order (R114, R247). -/
def chipWrites1541 (c : Config) (d : DriveId) (l : Lines) : List Event :=
  [.setInput d c.inAtn l.piAtn, .inputCA1 d l.piAtn, .setInput d c.inData l.piData, .setInput d c.inClock l.piClock]

/-- The chip inputs `READ_EMU_1581` writes, in order (R115, R247). -/
def chipWrites1581 (c : Config) (d : DriveId) (l : Lines) : List Event :=
  [.setInput d c.inAtn l.piAtn, .setPinFLAG d (flagLevel c l.piAtn), .setInput d c.inData l.piData,
    .setInput d c.inClock l.piClock]

/-- `READ_EMU_1541` (R114). -/
def readEmu1541 (d : DriveId) (s : State) : State :=
  if splitUnsupported s.cfg then notImpl d s
  else
    let s1 := (sampleIfEligible d s).mod d fun x => x.modLines (emuLines s.cfg x.chipKind x.rawSample)
    s1.emits (chipWrites1541 s.cfg d (s1.drive d).lines)

/-- `READ_EMU_1581` (R115). -/
def readEmu1581 (d : DriveId) (s : State) : State :=
  if splitUnsupported s.cfg then notImpl d s
  else
    let s1 := (sampleIfEligible d s).mod d fun x => x.modLines (emuLines1581 s.cfg x.chipKind x.rawSample)
    s1.emits (chipWrites1581 s.cfg d (s1.drive d).lines)

/-- The precondition of an emulation read: its mode, the real-time phase, its chip kind (R114, R115). -/
def mayReadEmu (m : Mode) (kind : ChipKind) (x : Drive) : Bool :=
  decide (x.mode = m) && decide (x.phase = .realtime) && decide (x.chipKind = kind)

/-- `READ_BROWSE` (R111). -/
def execReadBrowse (s : State) : Host.Outcome State Fault Refusal :=
  accept s inIecCommands readBrowse

/-- `READ_EMU_1541` (R114). -/
def execReadEmu1541 (s : State) : Host.Outcome State Fault Refusal :=
  accept s (mayReadEmu .emulating1541 .via1541) readEmu1541

/-- `READ_EMU_1581` (R115). -/
def execReadEmu1581 (s : State) : Host.Outcome State Fault Refusal :=
  accept s (mayReadEmu .emulating1581 .cia1581) readEmu1581

end Sys2Proof.Machine
end

