-- ==== Sys2Proof/Machine/CaddyOps.lean ====
section
/-! DEFINITION. The disk caddy (`45_caddy.md`). -/

namespace Sys2Proof.Machine

/-- `CADDY_INSERT`: whether the image is appended, and the state after (R226). A full caddy fails without opening. -/
def caddyInsert (file : FileInfo) (readOnly : Bool) (d : DriveId) (s : State) : Bool × State :=
  if (s.drive d).caddy.images.length = s.cfg.maxImages then (false, s)
  else
    match s.openAnswer d file readOnly with
    | none => (false, s.spend d .opened)
    | some img =>
      (true, (s.spend d .opened).mod d fun x => { x with caddy := { x.caddy with images := x.caddy.images ++ [img] } })

/-- `SELECT_FIRST` on a caddy (R227). -/
def Caddy.selectFirst (y : Caddy) : Bool × Caddy :=
  if y.images.length = 0 then (false, y) else (true, { y with current := 0 })

/-- `SELECT_IMAGE n` on a caddy (R228). -/
def Caddy.selectImage (n : Nat) (y : Caddy) : Bool × Caddy :=
  if n < y.images.length then (true, { y with current := n }) else (false, y)

/-- `NEXT_DISK` on a caddy: wraps from the last image to the first (R229). -/
def Caddy.nextDisk (y : Caddy) : Caddy :=
  if 0 < y.images.length then { y with current := (y.current + 1) % y.images.length } else y

/-- `PREV_DISK` on a caddy: wraps from the first image to the last (R230). -/
def Caddy.prevDisk (y : Caddy) : Caddy :=
  if 0 < y.images.length then { y with current := (y.current + y.images.length - 1) % y.images.length } else y

/-- A change of the caddy of instance `d`. -/
def setCaddy (d : DriveId) (y : Caddy) (s : State) : State :=
  s.mod d fun x => { x with caddy := y }

/-- Where the swap operations may be issued: outside a session, or at step k of a tick (R228, R232). Log entry 16. -/
def maySwap (x : Drive) : Bool :=
  inIecCommands x || atTickStep .k x

/-- `CADDY_INSERT` and what it returns (R226): the file information is the word's side data. -/
def insertImage (readOnly : Bool) (d : DriveId) (s : State) : State :=
  let r := caddyInsert s.side.file readOnly d s
  setResult d (.ok r.1) r.2

/-- `SELECT_FIRST` and what it returns (R227). -/
def selectFirst (d : DriveId) (s : State) : State :=
  let r := (s.drive d).caddy.selectFirst
  setResult d (.ok r.1) (setCaddy d r.2 s)

/-- `SELECT_IMAGE n` and what it returns (R228). -/
def selectImage (index : Byte) (d : DriveId) (s : State) : State :=
  let r := (s.drive d).caddy.selectImage index.toNat
  setResult d (.ok r.1) (setCaddy d r.2 s)

/-- `NEXT_DISK` (R229). -/
def nextDisk (d : DriveId) (s : State) : State :=
  setCaddy d (s.drive d).caddy.nextDisk s

/-- `PREV_DISK` (R230). -/
def prevDisk (d : DriveId) (s : State) : State :=
  setCaddy d (s.drive d).caddy.prevDisk s

/-- `GET_COUNT` (R231). -/
def getCount (d : DriveId) (s : State) : State :=
  setResult d (.count (s.drive d).caddy.images.length) s

/-- `CADDY_INSERT` (R226). -/
def execCaddyInsert (readOnly : Bool) (s : State) : Host.Outcome State Fault Refusal :=
  accept s inIecCommands (insertImage readOnly)

/-- `SELECT_FIRST` (R227). -/
def execSelectFirst (s : State) : Host.Outcome State Fault Refusal :=
  accept s inIecCommands selectFirst

/-- `SELECT_IMAGE n` (R228). -/
def execSelectImage (index : Byte) (s : State) : Host.Outcome State Fault Refusal :=
  accept s maySwap (selectImage index)

/-- `NEXT_DISK` (R229). -/
def execNextDisk (s : State) : Host.Outcome State Fault Refusal :=
  accept s maySwap nextDisk

/-- `PREV_DISK` (R230). -/
def execPrevDisk (s : State) : Host.Outcome State Fault Refusal :=
  accept s maySwap prevDisk

/-- `GET_COUNT` (R231). -/
def execGetCount (s : State) : Host.Outcome State Fault Refusal :=
  accept s anywhere getCount

end Sys2Proof.Machine
end

