-- ==== Sys2Proof/Machine/Sequencer.lean ====
section
/-! DEFINITION. The sequencer outside the tick (`43_loop.md` sections 1, 2 and 5). -/

namespace Sys2Proof.Machine

/-- `ApplyQuirk` on the session registers (R186): the option is forced false for a quirky hash. -/
def applyQuirk (c : Config) (img : Image) (z : Session) : Session :=
  if img.info.hash ∈ c.quirkHashes then { z with refreshAfter := false } else z

/-- `BEGIN_EMULATING` (R166); without a current image the mode stays `IEC_COMMANDS`. -/
def beginEmulating (d : DriveId) (s : State) : State :=
  match (s.drive d).caddy.images[(s.drive d).caddy.current]? with
  | none => s
  | some img =>
    let kind := kindOfImage img
    (s.mod d fun x =>
      { x.modSession (fun z => applyQuirk s.cfg img { z with refreshAfter := s.cfg.refreshOutsAfterCPUStep }) with
        driveImage := some img
        chipKind := kind
        mode := modeOfKind kind }).emit (.modeChange d (modeOfKind kind))

/-- `FASTBOOT_STEP` (R168). -/
def fastbootStep (d : DriveId) (s : State) : State :=
  (cpuStep d s).mod d fun x =>
    let n := x.session.cycleCount + 1
    let y := x.modSession fun z => { z with cycleCount := n }
    if n = s.cfg.fastBootCycles then { y with phase := .realtime, tickStep := .a } else y

/-- `FASTPATH_EVENT IMAGE_SELECTED` (R190, R242). -/
def imageSelected (d : DriveId) (s : State) : State :=
  let s0 := s.mod d fun x => x.modLatches fun l => { l with reqMount := none }
  let r := caddyInsert s.side.file s.side.readOnly d s0
  if r.1 then
    let s2 := if (r.2.drive d).caddy.images.length = 1 then setCaddy d (r.2.drive d).caddy.selectFirst.2 r.2 else r.2
    beginEmulating d s2
  else r.2.emit (.log d .mountFailed)

/-- `FASTPATH_EVENT STATE_CHANGE` (R190): a pending device number is taken over. -/
def stateChange (d : DriveId) (s : State) : State :=
  match (s.drive d).latches.reqDeviceID with
  | none => s
  | some n => s.mod d fun x => { x.modLatches (fun l => { l with reqDeviceID := none }) with deviceID := n }

/-- `FASTPATH_EVENT o` (R190). -/
def fastpathEvent (o : FastPathOutcome) (d : DriveId) (s : State) : State :=
  match o with
  | .imageSelected => imageSelected d s
  | .stateChange => stateChange d s
  | .fpReset => busReset d s

/-- `SHUTDOWN` (R191). It reads and clears a latch, which the table of R61 does not list: DEDUCED, log entry 36. -/
def shutdown (d : DriveId) (s : State) : State :=
  (s.mod d fun x => { x.modLatches (fun l => { l with reqShutdown := false }) with mode := .emulationShutdown }).emit
    (.modeChange d .emulationShutdown)

/-- The precondition of `FASTBOOT_STEP`: the control point `(EMULATING_15x1, FASTBOOT, -)` (R168, R30). -/
def inFastboot (x : Drive) : Bool :=
  x.mode.emulating && decide (x.phase = .fastboot)

/-- The precondition of `SHUTDOWN` (R191). An instance that reaches the terminal mode has already exited its loop
(R191 corner case 3, R212 corner case 2): DEDUCED, log entry 32. -/
def mayShutDown (x : Drive) : Bool :=
  decide (x.mode = .iecCommands) && x.latches.reqShutdown && !x.session.inLoop

/-- `FASTPATH_EVENT` (R190). -/
def execFastpathEvent (o : FastPathOutcome) (s : State) : Host.Outcome State Fault Refusal :=
  accept s inIecCommands (fastpathEvent o)

/-- `BEGIN_EMULATING` (R166). -/
def execBeginEmulating (s : State) : Host.Outcome State Fault Refusal :=
  accept s idleInIecCommands beginEmulating

/-- `FASTBOOT_STEP` (R168). -/
def execFastbootStep (s : State) : Host.Outcome State Fault Refusal :=
  accept s inFastboot fastbootStep

/-- `SHUTDOWN` (R191). -/
def execShutdown (s : State) : Host.Outcome State Fault Refusal :=
  accept s mayShutDown shutdown

end Sys2Proof.Machine
end

