-- ==== Sys2Proof/Machine/Tick.lean ====
section
/-! DEFINITION. The real-time tick and its sub-steps (`43_loop.md` section 3). -/

namespace Sys2Proof.Machine

/-- `S.Step <- t`. -/
def setStep (d : DriveId) (t : TickStep) (s : State) : State :=
  s.mod d fun x => { x with tickStep := t }

/-- `READ_EMU` without a suffix: the form of the mode (R96, R171). -/
def readEmu (d : DriveId) (s : State) : State :=
  match (s.drive d).mode with
  | .emulating1541 => readEmu1541 d s
  | .emulating1581 => readEmu1581 d s
  | .iecCommands => s
  | .emulationShutdown => s

/-- `TICK_A` (R173). -/
def tickA (d : DriveId) (s : State) : State :=
  let now := s.nowAnswer d
  setStep d .b ((s.spend d .now).mod d fun x => x.modSession fun z => { z with before := now })

/-- `TICK_B` (R174). -/
def tickB (d : DriveId) (s : State) : State :=
  setStep d .c (if (s.drive d).session.refreshAfter then readEmu d s else s)

/-- The snoop matcher on one byte (R175). -/
def snoopByte (c : Config) (b : Byte) (z : Session) : Session :=
  if b = c.snoopSig[z.snoopIdx] then
    if z.snoopIdx = 4 then
      if z.countdownActive then { z with snoopIdx := 0 }
      else { z with snoopIdx := 0, countdownActive := true, exitCountdown := c.exitCountdown }
    else { z with snoopIdx := z.snoopIdx + 1 }
  else { z with snoopIdx := 0 }

/-- `TICK_C` (R175). -/
def tickC (d : DriveId) (s : State) : State :=
  let v := s.cpuAnswer d
  let s1 := s.spend d .cpu
  setStep d .d
    (if v.sync && decide (v.pc ∈ snoopPcs s.cfg (s.drive d).mode) then
      s1.mod d fun x => x.modSession (snoopByte s.cfg v.a)
    else s1)

/-- `TICK_D` (R176). -/
def tickD (d : DriveId) (s : State) : State :=
  setStep d .e (cpuStep d s)

/-- `TICK_E` (R177). -/
def tickE (d : DriveId) (s : State) : State :=
  setStep d .f (if (s.drive d).session.refreshAfter then refresh d s else s)

/-- `TICK_F` (R178): `SetACTLed` on an edge only. -/
def tickF (d : DriveId) (s : State) : State :=
  let led := s.ledAnswer d
  let edge := led != (s.drive d).session.ledPrev
  let s1 := (s.spend d .led).mod d fun x => { x.modSession (fun z => { z with ledPrev := led }) with outputLED := led }
  setStep d .g (if edge then s1.emit (.setACTLed d led) else s1)

/-- The head value is stored; without DMA a change starts the square wave (R179). -/
def headMoved (c : Config) (hv : HeadValue) (x : Drive) : Drive :=
  x.modSession fun z =>
    if c.soundViaDMA then { z with headPrev := hv } else { z with headPrev := hv, soundRemaining := c.soundDuration }

/-- One tick of the square wave (R179). -/
def soundWave (c : Config) (x : Drive) : Drive :=
  if !c.soundViaDMA && decide (0 < x.session.soundRemaining) then
    let left := x.session.soundRemaining - 1
    let ph := x.session.soundPhase + 1
    let toggled := decide (ph = c.soundHalfPeriod)
    { x.modSession (fun z =>
        { z with soundRemaining := left, soundPhase := if toggled || decide (left = 0) then 0 else ph }) with
      outputSound := if left = 0 then false else if toggled then !x.outputSound else x.outputSound }
  else x

/-- `TICK_G` (R179). -/
def tickG (d : DriveId) (s : State) : State :=
  let hv := s.headAnswer d
  let s1 := s.spend d .head
  let s2 :=
    if hv ≠ (s.drive d).session.headPrev then
      let t := s1.mod d (headMoved s.cfg hv)
      if s.cfg.soundViaDMA then t.emit (.headSoundStart d) else t
    else s1
  setStep d .h (s2.mod d (soundWave s.cfg))

/-- The latches that `InputMap` sets (R156, R180). -/
def mapInputs (c : Config) (x : Drive) : Drive :=
  let m := inputMap c (x.buttons.map Button.pressed) (x.buttons.map Button.fired)
  x.modLatches fun l =>
    { l with
      reqExit := l.reqExit || m.exit
      reqNext := l.reqNext || m.next
      reqPrev := l.reqPrev || m.prev
      reqAutoload := l.reqAutoload || m.autoload
      reqDirectMask := l.reqDirectMask ||| directBits c m.direct }

/-- Exit, auto-load, unmount and mount requests move into the `Pend` registers; a mount request stays latched
(R180). -/
def takeExitRequests (x : Drive) : Drive :=
  let l := x.latches
  { x with
    session := { x.session with
      pendExit := x.session.pendExit || l.reqExit
      pendAutoload := x.session.pendAutoload || l.reqAutoload
      pendUnmount := x.session.pendUnmount || l.reqForcedUnmount || l.reqMount.isSome }
    latches := { l with reqExit := false, reqAutoload := false, reqForcedUnmount := false } }

/-- One swap request is taken: next beats prev beats direct (R180, R92). -/
def takeSwapRequest (c : Config) (x : Drive) : Drive :=
  let l := x.latches
  if l.reqNext then
    { x with session := { x.session with pendSwap := .next }, latches := { l with reqNext := false } }
  else if l.reqPrev then
    { x with session := { x.session with pendSwap := .prev }, latches := { l with reqPrev := false } }
  else if l.reqDirectMask ≠ 0 then
    { x with
      session := { x.session with pendSwap := .direct (directTarget c l.reqDirectMask) }
      latches := { l with reqDirectMask := 0 } }
  else x

/-- `TICK_H` (R180): the poll is issued if the instance is eligible, once per sample (R151, D31, log entry 33).
That it reads `G.dual_drive` for this, which the table of R61 does not list, is DEDUCED, log entry 36. -/
def tickH (d : DriveId) (s : State) : State :=
  let s1 := if mayPoll d s (s.drive d) then pollButtons d s else s
  setStep d .i (s1.mod d fun x => takeSwapRequest s.cfg (takeExitRequests (mapInputs s.cfg x)))

/-- The counters of `TICK_I` (R181); `CountdownActive` is kept, though R32 lists step i as a writer: DEDUCED, log entry
36. -/
def countTick (resetting : Bool) (z : Session) : Session :=
  { z with
    resetCount := if resetting then z.resetCount + 1 else 0
    exitCountdown := if z.countdownActive then z.exitCountdown - 1 else z.exitCountdown }

/-- The exit condition of `TICK_I`: the first that holds, in the order of R181 and R248. -/
def exitCondition (c : Config) (z : Session) : ExitType :=
  if z.resetCount > c.resetThreshold then .reset
  else if z.pendExit then .keyboard
  else if z.pendAutoload then .autoload
  else if z.countdownActive && decide (z.exitCountdown = 0) then .cd
  else if z.pendUnmount then .keyboard
  else .unknown

/-- `TICK_I` (R181). -/
def tickI (d : DriveId) (s : State) : State :=
  let s1 := s.mod d fun x => x.modSession (countTick x.lines.resetting)
  let r := exitCondition s.cfg (s1.drive d).session
  if r = .unknown then setStep d .j s1 else raiseExit d r s1

/-- The answers left after the spin: the first observation that reaches the period ends it (R183 corner case 2). Where
the supplied answers end first, the wait ends with them: `Now()` advances (R183 corner case 5). Log entry 14. -/
def spin (c : Config) (before : Timestamp) : List Timestamp → List Timestamp
  | [] => []
  | t :: ts => if elapsed c (t % 2 ^ c.timeW) before < c.tickPeriod then spin c before ts else ts

/-- `TICK_J` (R183). -/
def tickJ (d : DriveId) (s : State) : State :=
  let before := (s.drive d).session.before
  let e := elapsed s.cfg (s.nowAnswer d) before
  let s1 := s.spend d .now
  let s2 := if e > s.cfg.tickPeriod then s1.emit (.log d .lostCycle) else s1
  let s3 :=
    if e < s.cfg.tickPeriod then s2.mod d fun x => { x with env := { x.env with now := spin s.cfg before x.env.now } }
    else s2
  setStep d .jx s3

/-- `TICK_JX` (R184): the deferred refresh, then the deferred sense. -/
def tickJX (d : DriveId) (s : State) : State :=
  setStep d .k (if (s.drive d).session.refreshAfter then s else readEmu d (refresh d s))

/-- The caddy after the selection that `S.PendSwap` asks for (R185). -/
def swapCaddy (sw : Swap) (y : Caddy) : Caddy :=
  match sw with
  | .none => y
  | .next => y.nextDisk
  | .prev => y.prevDisk
  | .direct n => (y.selectImage n).2

/-- The swap of `TICK_K` (R185): an image of the other drive type is not inserted and the selection is undone. -/
def serviceSwap (c : Config) (x : Drive) : Drive :=
  if x.caddy.images.length > 1 ∧ x.session.pendSwap ≠ .none then
    let y := swapCaddy x.session.pendSwap x.caddy
    if y.current = x.caddy.current then { x with caddy := y }
    else
      match y.images[y.current]? with
      | none => x
      | some img =>
        if kindOfImage img = x.chipKind then
          { x.modSession (applyQuirk c img) with caddy := y, driveImage := some img }
        else x
  else x

/-- `TICK_K` (R185). -/
def tickK (d : DriveId) (s : State) : State :=
  s.mod d fun x => { (serviceSwap s.cfg x).modSession (fun z => { z with pendSwap := .none }) with tickStep := .a }

/-- The sub-steps of a tick, in order (R170). -/
def tickSteps : List TickStep := [.a, .b, .c, .d, .e, .f, .g, .h, .i, .j, .jx, .k]

/-- The sub-step at step `t` (R173 to R185). -/
def subStep (t : TickStep) (d : DriveId) (s : State) : State :=
  match t with
  | .a => tickA d s
  | .b => tickB d s
  | .c => tickC d s
  | .d => tickD d s
  | .e => tickE d s
  | .f => tickF d s
  | .g => tickG d s
  | .h => tickH d s
  | .i => tickI d s
  | .j => tickJ d s
  | .jx => tickJX d s
  | .k => tickK d s

/-- After sub-step i a tick that recorded an exit stops (R170). -/
def tickEnds (t : TickStep) (x : Drive) : Bool :=
  decide (t = .i) && decide (x.session.exitReason ≠ .unknown)

/-- Takes at most `n` of the sub-steps. It stops early where none is left, or where the tick ends with an exit. -/
def runTick (d : DriveId) : Nat → List TickStep → State → State
  | n + 1, t :: ts, s =>
    let s1 := subStep t d s
    if tickEnds t (s1.drive d) then s1 else runTick d n ts s1
  | _, _, s => s

/-- The sub-steps that an issued `TICK` takes now (R170, R96, R11): the first, and `State.unbroken` further ones before
another agent acts. The control point says which sub-step is next, and the loop's `advance` moves take it. Log entry
10. -/
def tick (d : DriveId) (s : State) : State :=
  runTick d (s.unbroken + 1) tickSteps s

/-- `TICK` (R170). -/
def execTick (s : State) : Host.Outcome State Fault Refusal :=
  accept s (atTickStep .a) tick

/-- `TICK_A` (R173). -/
def execTickA (s : State) : Host.Outcome State Fault Refusal :=
  accept s (atTickStep .a) tickA

/-- `TICK_B` (R174). -/
def execTickB (s : State) : Host.Outcome State Fault Refusal :=
  accept s (atTickStep .b) tickB

/-- `TICK_C` (R175). -/
def execTickC (s : State) : Host.Outcome State Fault Refusal :=
  accept s (atTickStep .c) tickC

/-- `TICK_D` (R176). -/
def execTickD (s : State) : Host.Outcome State Fault Refusal :=
  accept s (atTickStep .d) tickD

/-- `TICK_E` (R177). -/
def execTickE (s : State) : Host.Outcome State Fault Refusal :=
  accept s (atTickStep .e) tickE

/-- `TICK_F` (R178). -/
def execTickF (s : State) : Host.Outcome State Fault Refusal :=
  accept s (atTickStep .f) tickF

/-- `TICK_G` (R179). -/
def execTickG (s : State) : Host.Outcome State Fault Refusal :=
  accept s (atTickStep .g) tickG

/-- `TICK_H` (R180). -/
def execTickH (s : State) : Host.Outcome State Fault Refusal :=
  accept s (atTickStep .h) tickH

/-- `TICK_I` (R181). -/
def execTickI (s : State) : Host.Outcome State Fault Refusal :=
  accept s (atTickStep .i) tickI

/-- `TICK_J` (R183). -/
def execTickJ (s : State) : Host.Outcome State Fault Refusal :=
  accept s (atTickStep .j) tickJ

/-- `TICK_JX` (R184). -/
def execTickJX (s : State) : Host.Outcome State Fault Refusal :=
  accept s (atTickStep .jx) tickJX

/-- `TICK_K` (R185). -/
def execTickK (s : State) : Host.Outcome State Fault Refusal :=
  accept s (atTickStep .k) tickK

end Sys2Proof.Machine
end

