-- ==== Sys2Proof/Machine/Dispatch.lean ====
section
/-! DEFINITION. One arm for each operation: the instance `s.cur` executes it. -/

namespace Sys2Proof.Machine

def exec (i : Instr) (s : State) : Host.Outcome State Fault Refusal :=
  match i with
  | .busReset => Sys2Proof.Machine.execBusReset s
  | .readBrowse => Sys2Proof.Machine.execReadBrowse s
  | .readEmu1541 => Sys2Proof.Machine.execReadEmu1541 s
  | .readEmu1581 => Sys2Proof.Machine.execReadEmu1581 s
  | .refresh1541 => Sys2Proof.Machine.execRefresh1541 s
  | .refresh1581 => Sys2Proof.Machine.execRefresh1581 s
  | .portBOut status => Sys2Proof.Machine.execPortBOut status s
  | .setSrqOut b => Sys2Proof.Machine.execSetSrqOut b s
  | .pollButtons => Sys2Proof.Machine.execPollButtons s
  | .fastpathEvent outcome => Sys2Proof.Machine.execFastpathEvent outcome s
  | .beginEmulating => Sys2Proof.Machine.execBeginEmulating s
  | .emulateEnter => Sys2Proof.Machine.execEmulateEnter s
  | .fastbootStep => Sys2Proof.Machine.execFastbootStep s
  | .tick => Sys2Proof.Machine.execTick s
  | .emulateExit => Sys2Proof.Machine.execEmulateExit s
  | .shutdown => Sys2Proof.Machine.execShutdown s
  | .ddEnter => Sys2Proof.Machine.execDdEnter s
  | .ddExit => Sys2Proof.Machine.execDdExit s
  | .caddyInsert b => Sys2Proof.Machine.execCaddyInsert b s
  | .selectFirst => Sys2Proof.Machine.execSelectFirst s
  | .selectImage index => Sys2Proof.Machine.execSelectImage index s
  | .nextDisk => Sys2Proof.Machine.execNextDisk s
  | .prevDisk => Sys2Proof.Machine.execPrevDisk s
  | .getCount => Sys2Proof.Machine.execGetCount s
  | .tickA => Sys2Proof.Machine.execTickA s
  | .tickB => Sys2Proof.Machine.execTickB s
  | .tickC => Sys2Proof.Machine.execTickC s
  | .tickD => Sys2Proof.Machine.execTickD s
  | .tickE => Sys2Proof.Machine.execTickE s
  | .tickF => Sys2Proof.Machine.execTickF s
  | .tickG => Sys2Proof.Machine.execTickG s
  | .tickH => Sys2Proof.Machine.execTickH s
  | .tickI => Sys2Proof.Machine.execTickI s
  | .tickJ => Sys2Proof.Machine.execTickJ s
  | .tickJX => Sys2Proof.Machine.execTickJX s
  | .tickK => Sys2Proof.Machine.execTickK s

end Sys2Proof.Machine
end

