-- ==== Sys2Proof/Machine/Moves.lean ====
section
/-! DEFINITION. What one move of an agent does (R5, R72): an issued command word is decoded and executed, a loop takes
its own next atomic step, a request latch is set. -/

namespace Sys2Proof.Machine

/-- The state in which instance `d` executes an operation whose side data is `side`, and of which at most
`unbroken + 1` atomic steps are taken before another agent acts. -/
def State.focus (s : State) (d : DriveId) (side : SideData) (unbroken : Nat) : State :=
  { s with cur := d, side := side, unbroken := unbroken }

/-- An issued command word (R80, R83): decoded, then executed; a reserved word is refused (R94, U1). -/
def issueWord (d : DriveId) (word : CommandWord) (side : SideData) (unbroken : Nat) (s : State) :
    Host.Outcome State Fault Refusal :=
  match decode word with
  | .ok i => exec i (s.focus d side unbroken)
  | .error why => .refused (.reservedWord why)

/-- The sub-step that a tick at step `t` runs next (R170). -/
def tickInstr : TickStep → Instr
  | .a => .tickA
  | .b => .tickB
  | .c => .tickC
  | .d => .tickD
  | .e => .tickE
  | .f => .tickF
  | .g => .tickG
  | .h => .tickH
  | .i => .tickI
  | .j => .tickJ
  | .jx => .tickJX
  | .k => .tickK

/-- What the loop does next at a control point (R165, R192). -/
inductive LoopStep where
  /-- an atomic operation -/
  | op (i : Instr)
  /-- the first step of an operation of several lock steps -/
  | start (ts : List LockStep)
  /-- the loop has nothing to do here: the fast path runs, or the owner has not gone on -/
  | idle
deriving DecidableEq, Repr

/-- `EMULATE154X` at the control point of an instance (R165): enter, the fast-boot steps, the sub-steps of the ticks,
leave. -/
def loopStep (x : Drive) : LoopStep :=
  if x.mode.emulating then
    match x.phase with
    | .fastboot => .op .fastbootStep
    | .realtime => .op (tickInstr x.tickStep)
    | .idle =>
      if mayEnter x then .start emulateEnterSteps
      else if mayLeave x then .start emulateExitSteps
      else .idle
  else .idle

/-- The loop of instance `d` takes its next atomic step (R11, R165): a lock step that is left, else what its control
point asks for. An instance that is shut down has none: it is stuck (R191, U12). -/
def advance (d : DriveId) (s : State) : Host.Outcome State Fault Refusal :=
  if s.present d then
    if (s.drive d).mode = .emulationShutdown then .fault .stuckInShutdown
    else
      match (s.drive d).todo with
      | t :: ts => .next (runSteps d 1 (t :: ts) s)
      | [] =>
        match loopStep (s.drive d) with
        | .op i => exec i (s.focus d s.side s.unbroken)
        | .start ts => .next (runSteps d 1 ts s)
        | .idle => .next s
  else .refused .absentInstance

/-- The auxiliary core sets a latch of instance `d`, at any time (R35, R76), also of one in `EMULATION_SHUTDOWN`, whose
state R259 says survives unchanged: DEDUCED, log entry 37. -/
def request (d : DriveId) (r : Request) (s : State) : Host.Outcome State Fault Refusal :=
  if s.present d then .next (s.mod d fun x => x.modLatches (setLatch s.cfg r)) else .refused .absentInstance

/-- One move. -/
def runMove (m : Move) (s : State) : Host.Outcome State Fault Refusal :=
  match m with
  | .issue d word side unbroken => issueWord d word side unbroken s
  | .advance d => advance d s
  | .request d r => request d r s

/-- The next move of the agenda; with none, no agent acts and nothing changes. Log entries 9 and 30. -/
def runAgenda (s : State) : Host.Outcome State Fault Refusal :=
  match s.agenda with
  | [] => .next s
  | m :: rest => runMove m { s with agenda := rest }

/-- How many further atomic steps the longest operation has after its first: a `TICK` has twelve (R170). -/
def wholeOperation : Nat := 11

/-- `s` with a command word issued next to the current instance, without side data, to run whole. -/
def issueNext (s : State) (word : CommandWord) : State :=
  { s with agenda := .issue s.cur word ⟨0, false⟩ wholeOperation :: s.agenda }

end Sys2Proof.Machine
end

