-- ==== Sys2Proof/Machine/Step.lean ====
section
/-! DEFINITION. One step of the machine, and where it fetches its next instruction. -/

namespace Sys2Proof.Machine

/-- One step: one move of one agent (R72). -/
def step (s : State) : Host.Outcome State Fault Refusal :=
  runAgenda s

/-- `s` with the command word of the bits `w` as the move that the next step takes. -/
def State.withFetchWord (s : State) (nbits w : Nat) : State :=
  issueNext s (wordOfBits nbits w)

end Sys2Proof.Machine
end

