-- ==== Sys2Proof/Safety.lean ====
section
/-! DEFINITION. The terms claims are stated in: when an instance is ready for an operation, what stays outside it, the
invariants of the spec, and the runs of several operations. -/

namespace Sys2Proof.Machine

/-! ## Outcomes -/

/-- The step goes on. -/
def completes (o : Host.Outcome State Fault Refusal) : Prop :=
  ∃ t, o = .next t

/-- Several operations of the current instance, one after the other, up to the first that does not go on. -/
def execAll : List Instr → State → Host.Outcome State Fault Refusal
  | [], s => .next s
  | i :: is, s =>
    match exec i s with
    | .next t => execAll is t
    | .fault r => .fault r
    | .refused r => .refused r

/-- `k` of the loop's own next atomic steps of instance `d`, one after the other (R11, R165). -/
def advances (d : DriveId) : Nat → State → Host.Outcome State Fault Refusal
  | 0, s => .next s
  | k + 1, s =>
    match advance d s with
    | .next t => advances d k t
    | .fault r => .fault r
    | .refused r => .refused r

/-! ## Premises and frames -/

/-- The record of the instance that executes (R9). -/
abbrev State.self (s : State) : Drive := s.drive s.cur

/-- The current instance exists, is not shut down and has no lock step left (R213, R191, R210): what every operation
asks for, beside its own precondition. -/
abbrev State.ready (s : State) : Prop :=
  s.present s.cur = true ∧ s.self.mode ≠ .emulationShutdown ∧ s.self.todo = []

/-- The control points at which the rules of the operations let them be issued, over the instance that issues (U1).
`PORTB_OUT`, `SET_SRQ_OUT`, `BUS_RESET` and `GET_COUNT` state none (R131, R136, R137, R231), and a poll none but
eligibility and a fresh sample (R151); where those five, the swaps, the refreshes, `DD_ENTER`, `DD_EXIT` and `SHUTDOWN`
run is log entries 16, 32 and 33. -/
def precondition (i : Instr) (s : State) : Prop :=
  let x := s.self
  let at_ (t : TickStep) : Prop := x.mode.emulating = true ∧ x.phase = .realtime ∧ x.tickStep = t
  match i with
  | .busReset | .portBOut _ | .setSrqOut _ | .getCount => True
  | .readBrowse | .fastpathEvent _ | .caddyInsert _ | .selectFirst => x.mode = .iecCommands
  | .readEmu1541 => x.mode = .emulating1541 ∧ x.phase = .realtime ∧ x.chipKind = .via1541
  | .readEmu1581 => x.mode = .emulating1581 ∧ x.phase = .realtime ∧ x.chipKind = .cia1581
  | .refresh1541 => x.chipKind = .via1541
  | .refresh1581 => x.chipKind = .cia1581
  | .pollButtons => s.readEligible s.cur = true ∧ x.samplePolled = false
  | .beginEmulating => x.mode = .iecCommands ∧ x.phase = .idle
  | .emulateEnter => x.mode.emulating = true ∧ x.phase = .idle ∧ x.session.inLoop = false
  | .fastbootStep => x.mode.emulating = true ∧ x.phase = .fastboot
  | .emulateExit =>
    x.mode.emulating = true ∧ x.phase = .idle ∧ x.session.exitReason ≠ .unknown ∧ x.session.inLoop = true
  | .shutdown => x.mode = .iecCommands ∧ x.latches.reqShutdown = true ∧ x.session.inLoop = false
  | .ddEnter => x.session.inLoop = false
  | .ddExit => x.session.inLoop = true
  | .selectImage _ | .nextDisk | .prevDisk => x.mode = .iecCommands ∨ at_ .k
  | .tick | .tickA => at_ .a
  | .tickB => at_ .b
  | .tickC => at_ .c
  | .tickD => at_ .d
  | .tickE => at_ .e
  | .tickF => at_ .f
  | .tickG => at_ .g
  | .tickH => at_ .h
  | .tickI => at_ .i
  | .tickJ => at_ .j
  | .tickJX => at_ .jx
  | .tickK => at_ .k

/-- Nothing outside the record of instance `d`, the trace and the free-value counter is different. -/
structure SameOutside (d : DriveId) (s t : State) : Prop where
  cfg       : t.cfg = s.cfg
  other     : t.drive d.other = s.drive d.other
  dualDrive : t.dualDrive = s.dualDrive
  lock      : t.lock = s.lock
  cur       : t.cur = s.cur
  side      : t.side = s.side
  agenda    : t.agenda = s.agenda
  unbroken  : t.unbroken = s.unbroken

/-- The operation `READ_EMU` stands for in a mode (R96, R171); the modes outside a session have none. -/
def readEmuInstr : Mode → Instr
  | .emulating1581 => .readEmu1581
  | .emulating1541 => .readEmu1541
  | .iecCommands => .readBrowse
  | .emulationShutdown => .readBrowse

/-- The operation `REFRESH` stands for in a mode (R96, R171). -/
def refreshInstr : Mode → Instr
  | .emulating1581 => .refresh1581
  | .emulating1541 => .refresh1541
  | .iecCommands => .refresh1541
  | .emulationShutdown => .refresh1541

/-- The operation a chip call issues (R62, R136). -/
def ChipCall.instr : ChipCall → Instr
  | .portBOut status => .portBOut status
  | .setSrqOut b => .setSrqOut b

/-- The sub-steps a to i (R170). -/
def tickInstrsToI : List Instr :=
  [.tickA, .tickB, .tickC, .tickD, .tickE, .tickF, .tickG, .tickH, .tickI]

/-- The sub-steps after i (R170). -/
def tickInstrsAfterI : List Instr :=
  [.tickJ, .tickJX, .tickK]

/-- An event that reaches the pins. -/
def Event.isDrive : Event → Bool
  | .gpioDrive _ _ => true
  | _ => false

/-- The rows of the transition table of the mode that change it (R192), for an operation that makes `y` of the record
`x`; an image that is selected begins its emulation (R190). -/
def modeRow (i : Instr) (x y : Drive) : Prop :=
  (x.mode = .iecCommands ∧ (i = .beginEmulating ∨ i = .fastpathEvent .imageSelected) ∧
      ∃ img, img ∈ y.caddy.images ∧ y.driveImage = some img ∧
        y.mode = if img.info.isD81 then .emulating1581 else .emulating1541) ∨
    (x.mode = .iecCommands ∧ i = .shutdown ∧ x.latches.reqShutdown = true ∧ y.mode = .emulationShutdown) ∨
    (x.mode.emulating = true ∧ i = .emulateExit ∧ x.session.exitReason ≠ .unknown ∧ y.mode = .iecCommands)

/-- The instance whose agent makes the move. -/
def Move.drive : Move → DriveId
  | .issue d _ _ _ => d
  | .advance d => d
  | .request d _ => d

/-- An event that reads the pins. -/
def Event.isRead : Event → Bool
  | .gpioRead _ _ => true
  | _ => false

/-! ## Invariants of the spec -/

/-- The loopback invariant (R24). -/
structure LoopbackOk (x : Drive) : Prop where
  data  : (x.lines.dataSetToOut || x.lines.atnaDataSetToOut) = true → x.lines.piData = true
  clock : x.lines.clockSetToOut = true → x.lines.piClock = true

/-- The number of instances inside their loop (R39). -/
def loopCount (s : State) : Int :=
  (if s.d0.session.inLoop then 1 else 0) + (if s.d1.session.inLoop then 1 else 0)

/-- What is left of an operation of several steps (R167, R188, R211, R212). -/
def legalTodo (ts : List LockStep) : Prop :=
  ts ∈ emulateEnterSteps.tails ++ emulateExitSteps.tails ++ ddEnterSteps.tails ++ ddExitSteps.tails

/-- The lock is held between an instance's `Acquire` and its `Release`, and never otherwise (R210). -/
def holdsLock (x : Drive) : Prop :=
  LockStep.release ∈ x.todo ∧ LockStep.acquire ∉ x.todo

/-- The steps an instance still has to take fit its record: it counts itself once (R211, R212), and the session steps
stand at an idle control point of an emulating mode, the leaving one after a recorded exit (R167, R188). -/
structure TodoOk (x : Drive) : Prop where
  legal : legalTodo x.todo
  up    : LockStep.countUp ∈ x.todo → x.session.inLoop = false
  down  : LockStep.countDown ∈ x.todo → x.session.inLoop = true
  enter : LockStep.enterSession ∈ x.todo → x.mode.emulating = true ∧ x.phase = .idle
  leave : LockStep.leaveSession ∈ x.todo →
    x.mode.emulating = true ∧ x.phase = .idle ∧ x.session.exitReason ≠ .unknown

/-- The arbiter's invariant: the counter is the number of instances in their loop (R39), and an instance holds the lock
exactly inside its locked section, so two sections never overlap (R72, R210). -/
structure ArbiterOk (s : State) : Prop where
  count : s.dualDrive = loopCount s
  lock  : ∀ d, s.lock = .held d ↔ holdsLock (s.drive d)
  todo  : ∀ d, TodoOk (s.drive d)

/-- The invariant of one sequencer: a legal control point (R30), the chip kind of the mode (R171), the gate during a
session (R23), no exit recorded while the loop runs (R33), and no instance in the terminal mode that is still counted in
its loop (R212 corner case 2). -/
structure SessionOk (x : Drive) : Prop where
  point : x.phase ≠ .idle → x.mode.emulating = true
  chip1541 : x.mode = .emulating1541 → x.chipKind = .via1541
  chip1581 : x.mode = .emulating1581 → x.chipKind = .cia1581
  gate  : x.phase ≠ .idle → x.lines.atnaDataSetToOut = gate x.chipKind x.lines.viaAtna x.lines.piAtn
  exit  : x.phase ≠ .idle → x.session.exitReason = .unknown
  down  : x.mode = .emulationShutdown → x.session.inLoop = false

/-- The caddy invariant (R225). -/
def CaddyOk (c : Config) (y : Caddy) : Prop :=
  y.images.length ≤ c.maxImages ∧ ((y.images = [] ∧ y.current = 0) ∨ y.current < y.images.length)

/-- The drive model holds an image of the caddy whenever the instance emulates (R233). -/
def ImageOk (x : Drive) : Prop :=
  x.mode.emulating = true → ∃ img ∈ x.caddy.images, x.driveImage = some img

/-- One button (R152, R151 corner case 4): pressed exactly when the count has reached the threshold, and the next
firing still ahead. -/
structure ButtonOk (c : Config) (b : Button) : Prop where
  pressed : b.pressed = decide (c.debounceThreshold ≤ b.count)
  ahead   : b.pressed = true → b.count < b.repThr
  raw     : b.raw = decide (0 < b.count)
  fired   : b.fired = true → b.pressed = true

/-- The debouncer file (R36, R152): one entry for each button, each of them right. -/
def DebounceOk (c : Config) (x : Drive) : Prop :=
  x.buttons.length = c.pinButtons.length ∧ ∀ b ∈ x.buttons, ButtonOk c b

/-- What the machine keeps of arbiter and sequencers (R23, R30, R33, R39, R210). -/
structure LoopInv (s : State) : Prop where
  arbiter : ArbiterOk s
  session : ∀ d, SessionOk (s.drive d)

/-- What the machine keeps of the caddies and the drive models (R225, R233). -/
structure CaddyInv (s : State) : Prop where
  caddy : ∀ d, CaddyOk s.cfg (s.drive d).caddy
  image : ∀ d, ImageOk (s.drive d)

/-- Every repeat interval is at least 1 (P7). -/
def IntervalsPositive (c : Config) : Prop :=
  ∀ k, 1 ≤ repeatInterval c k

end Sys2Proof.Machine
end

