-- ==== Sys2Proof/WellFormed.lean ====
section
/-! DEFINITION. Which parameter records are well formed: the side conditions that R6 puts on P1 to P27, each as a
named check. Instructions need none: their operands are typed, so every term of `Instr` is well formed (R81, R94). -/

namespace Sys2Proof

/-- A mask is one-hot when exactly one bit is 1 (R7), here one of the `w` bits of a sample word. -/
def isOneHot (w : Nat) (m : RawWord) : Bool :=
  (List.range w).any fun p => m == 2 ^ p

/-- The five line masks (P2). -/
def Config.linePins (c : Config) : List RawWord :=
  [c.pinAtn, c.pinData, c.pinClock, c.pinSRQ, c.pinReset]

/-- P2, P3: every mask is one-hot in a word of `GPIO_W` bits. -/
def Config.pinsOneHot (c : Config) : Bool :=
  (c.linePins ++ c.pinButtons).all (isOneHot c.gpioW)

/-- P2, P3: the masks are pairwise distinct. -/
def Config.pinsDistinct (c : Config) : Bool :=
  decide (c.linePins ++ c.pinButtons).Nodup

/-- D9: the output-intent masks are distinct. -/
def Config.statusMasksDistinct (c : Config) : Bool :=
  decide [c.stDataOut, c.stClockOut, c.stAtna].Nodup

/-- P6: the debounce threshold is at least 1. -/
def Config.thresholdPositive (c : Config) : Bool :=
  decide (1 ≤ c.debounceThreshold)

/-- Adjacent entries do not increase. -/
def nonIncreasing : List Nat → Bool
  | [] => true
  | [_] => true
  | a :: b :: rest => decide (b ≤ a) && nonIncreasing (b :: rest)

/-- P7: there is an interval, the intervals do not increase, and each is at least 1 (R153). -/
def Config.repeatShape (c : Config) : Bool :=
  !c.repeatIntervals.isEmpty && nonIncreasing c.repeatIntervals && c.repeatIntervals.all fun k => decide (1 ≤ k)

/-- P12: the exit countdown is at least 1. -/
def Config.countdownPositive (c : Config) : Bool :=
  decide (1 ≤ c.exitCountdown)

/-- P13: exactly 8 hashes. -/
def Config.eightHashes (c : Config) : Bool :=
  decide (c.quirkHashes.length = 8) && decide c.quirkHashes.Nodup

/-- P23: both sound parameters are at least 1. -/
def Config.soundPositive (c : Config) : Bool :=
  decide (1 ≤ c.soundHalfPeriod) && decide (1 ≤ c.soundDuration)

/-- R6: every side condition on the parameters. -/
def Config.wf (c : Config) : Bool :=
  c.pinsOneHot && c.pinsDistinct && c.statusMasksDistinct && c.thresholdPositive && c.repeatShape &&
    c.countdownPositive && c.eightHashes && c.soundPositive

end Sys2Proof
end

