-- ==== Sys2Proof/Certificates/Slice0/Obligations.lean ====
section
/-! DEFINITION. The statements about the model, each `def Obligations.<Name> : Prop`; OBLIGATIONS.json lists them.
In the statements about one operation, `d` is the instance that executes it, `x` its record before, and `SameOutside`
says that nothing outside that record, the trace and the free-value counter changes. `env := (t.drive d).env` leaves
open only which supplied answers are used up. The answers of the collaborators (`s.gpioAnswer d` and its like) are
arbitrary: supplied in `env`, or free (log entry 8); the form in which State holds them is the model's. A clause about
`trace` is about the events of R77: the answer a collaborator gives is no event but for `GpioRead`, log entry 35. -/

open Sys2Proof Sys2Proof.Machine

/-! ## The command word -/

/-- Words written out from the encoding, V-E1 to V-E13 of `95_test_vectors.md`. -/
def Obligations.DecodeListedWords : Prop :=
  decode 0x0001 = .ok .busReset ∧ decode 0x0002 = .ok .readBrowse ∧ decode 0x1007 = .ok (.portBOut 0x10) ∧
    decode 0xFF07 = .ok (.portBOut 0xFF) ∧ decode 0x0108 = .ok (.setSrqOut true) ∧ decode 0x0010 = .ok .pollButtons ∧
    decode 0x0020 = .ok (.fastpathEvent .imageSelected) ∧ decode 0x0120 = .ok (.fastpathEvent .stateChange) ∧
    decode 0x0220 = .ok (.fastpathEvent .fpReset) ∧ decode 0x0031 = .ok .ddExit ∧
    decode 0x0140 = .ok (.caddyInsert true) ∧ decode 0x0342 = .ok (.selectImage 3) ∧
    decode 0xFF42 = .ok (.selectImage 255) ∧ decode 0x005A = .ok .tickJX ∧ decode 0x005B = .ok .tickK

/-- No bit of an encoding is dropped: decoding an encoded operation gives it back, for every operand (R80 to R82). -/
def Obligations.DecodeEncodeRoundTrip : Prop :=
  ∀ i : Instr, decode (encode i) = .ok i

/-- Each word has one meaning: a word that decodes is the encoding of what it decodes to (R80 to R82, R94). -/
def Obligations.EncodeDecodeRoundTrip : Prop :=
  ∀ (w : CommandWord) (i : Instr), decode w = .ok i → encode i = w

/-- Reserved words (R94): every other selector, every operand byte that violates its format, outcome code 3; an issued
reserved word is refused by that name; `SELECT_IMAGE` is legal with every index. -/
def Obligations.ReservedWordsRefused : Prop :=
  ∀ w : CommandWord,
    let op := w.extractLsb' 0 8
    let arg := w.extractLsb' 8 8
    let formatN : List Byte :=
      [0x01, 0x02, 0x03, 0x04, 0x05, 0x06, 0x10, 0x21, 0x22, 0x23, 0x24, 0x25, 0x26, 0x30, 0x31, 0x41, 0x43, 0x44,
        0x45, 0x50, 0x51, 0x52, 0x53, 0x54, 0x55, 0x56, 0x57, 0x58, 0x59, 0x5A, 0x5B]
    (op ∉ formatN ++ [0x07, 0x42, 0x08, 0x40, 0x20] → decode w = .error .selector) ∧
      (op ∈ formatN → arg ≠ 0 → decode w = .error .operand) ∧
      (op = 0x08 ∨ op = 0x40 → arg.extractLsb' 1 7 ≠ 0 → decode w = .error .operand) ∧
      (op = 0x20 → arg.extractLsb' 2 6 ≠ 0 → decode w = .error .operand) ∧
      (op = 0x20 → arg = 3 → decode w = .error .outcomeCode) ∧
      (op = 0x42 → decode w = .ok (.selectImage arg)) ∧
      ∀ (s : State) (d : DriveId) (side : SideData) (n : Nat) (rest : List Move) (why : Reserved),
        s.agenda = .issue d w side n :: rest → decode w = .error why → step s = .refused (.reservedWord why)

/-- A step runs the decoded instruction. When the next move issues a word that decodes to `i`, the step is `exec i`,
with the move taken off the agenda, the issuing instance current, the word's side data at hand, and the number of
atomic steps it may go on uninterrupted; `withFetchWord` puts such a move first, for a whole operation. When the loop
moves on at a fast-boot or real-time control point, the step is `exec` of that point's operation. The agenda of moves
is the model's, log entries 9 and 11. -/
def Obligations.StepRunsDecodedInstruction : Prop :=
  (∀ (s : State) (d : DriveId) (w : CommandWord) (side : SideData) (n : Nat) (rest : List Move) (i : Instr),
    s.agenda = .issue d w side n :: rest → decode w = .ok i →
    step s = exec i { s with agenda := rest, cur := d, side := side, unbroken := n }) ∧
    (∀ (s : State) (nbits w : Nat) (i : Instr), decode (wordOfBits nbits w) = .ok i →
      step (s.withFetchWord nbits w) = exec i { s with side := ⟨0, false⟩, unbroken := 11 }) ∧
    ∀ (s : State) (d : DriveId) (rest : List Move), s.agenda = .advance d :: rest → s.present d = true →
      (s.drive d).todo = [] → (s.drive d).mode.emulating = true →
      ((s.drive d).phase = .fastboot → step s = exec .fastbootStep { s with agenda := rest, cur := d }) ∧
        ((s.drive d).phase = .realtime →
          step s = exec (tickInstr (s.drive d).tickStep) { s with agenda := rest, cur := d })

/-- A move of the auxiliary core sets its request latch of the instance and changes nothing else: a flag becomes true.
The rest is the model's choice, log entry 25: a direct mask adds its bits below `MAX_IMAGES` to those pending, and a
second file or device number replaces the pending one. The move itself is log entry 9; that it also sets the latch of an
instance that is shut down is log entry 37. -/
def Obligations.RequestSetsLatch : Prop :=
  ∀ (s : State) (d : DriveId) (r : Request) (rest : List Move), s.agenda = .request d r :: rest →
    s.present d = true →
    let l := (s.drive d).latches
    let l' : Latches :=
      match r with
      | .exit => { l with reqExit := true }
      | .autoload => { l with reqAutoload := true }
      | .next => { l with reqNext := true }
      | .prev => { l with reqPrev := true }
      | .direct mask => { l with reqDirectMask := l.reqDirectMask ||| mask % 2 ^ s.cfg.maxImages }
      | .forcedUnmount => { l with reqForcedUnmount := true }
      | .mount file => { l with reqMount := some file }
      | .shutdown => { l with reqShutdown := true }
      | .deviceID n => { l with reqDeviceID := some n }
    step s = .next (({ s with agenda := rest } : State).mod d fun x => { x with latches := l' })

/-! ## Sensing -/

/-- The two functions every bus operation computes with: a line pin reads asserted when it is low, inverted by the
configuration, and a button pin when it is low (R110, R150); the gate is XOR with a VIA and AND without one (R130). -/
def Obligations.SensePolarityAndGate : Prop :=
  (∀ (c : Config) (raw pin : RawWord),
    (c.invertIECInputs = false → (sense c raw pin = true ↔ raw &&& pin = 0)) ∧
      (c.invertIECInputs = true → (sense c raw pin = true ↔ raw &&& pin ≠ 0)) ∧
      (buttonAsserted raw pin = true ↔ raw &&& pin = 0)) ∧
    (gate .via1541 false false = false ∧ gate .via1541 false true = true ∧ gate .via1541 true false = true ∧
      gate .via1541 true true = false) ∧
    (gate .cia1581 false false = false ∧ gate .cia1581 false true = false ∧ gate .cia1581 true false = false ∧
      gate .cia1581 true true = true)

/-- `READ_BROWSE`: an eligible instance takes one sample, sets ATN, DATA, CLOCK and RESET from it without loopback and
polls its buttons on it; an instance that is not eligible does nothing. That the sample counts as polled is the model's
field of log entry 33. -/
def Obligations.ReadBrowseResult : Prop :=
  ∀ s : State, s.ready → s.self.mode = .iecCommands →
    (s.cfg.splitIECLines && !s.cfg.platformSupportsSplit) = false →
    (s.readEligible s.cur = false → exec .readBrowse s = .next s) ∧
    (s.readEligible s.cur = true →
      let d := s.cur
      let x := s.self
      let raw := s.gpioAnswer d
      ∃ t, exec .readBrowse s = .next t ∧ SameOutside d s t ∧ t.trace = s.trace ++ [.gpioRead d raw] ∧
        t.drive d =
          { x with
            rawSample := raw
            samplePolled := true
            lines := { x.lines with
              piAtn := sense s.cfg raw s.cfg.pinAtn
              piData := sense s.cfg raw s.cfg.pinData
              piClock := sense s.cfg raw s.cfg.pinClock
              resetting := !s.cfg.ignoreReset && sense s.cfg raw s.cfg.pinReset }
            buttons := pollFile s.cfg raw s.cfg.pinButtons x.buttons
            env := (t.drive d).env })

/-- In split-lines mode on a platform that cannot support it, each of the five pin operations reports once and is
otherwise a no-op (R116, R117). -/
def Obligations.UnsupportedSplitIsNoOp : Prop :=
  ∀ (s : State) (i : Instr), s.ready → s.cfg.splitIECLines = true → s.cfg.platformSupportsSplit = false →
    ((i = .readBrowse ∧ s.self.mode = .iecCommands) ∨
      (i = .readEmu1541 ∧ s.self.mode = .emulating1541 ∧ s.self.phase = .realtime ∧ s.self.chipKind = .via1541) ∨
      (i = .readEmu1581 ∧ s.self.mode = .emulating1581 ∧ s.self.phase = .realtime ∧ s.self.chipKind = .cia1581) ∨
      (i = .refresh1541 ∧ s.self.chipKind = .via1541) ∨ (i = .refresh1581 ∧ s.self.chipKind = .cia1581)) →
    (s.self.notImplReported = true → exec i s = .next s) ∧
      (s.self.notImplReported = false →
        exec i s =
          .next ((s.mod s.cur fun x => { x with notImplReported := true }).emit (.log s.cur .notImplemented)))

/-- `READ_EMU_1541`: a fresh sample when eligible, the held one else; ATN, the XOR gate of the same sample, DATA and
CLOCK with loopback, RESET; four chip inputs written on every call. A fresh sample is not polled yet, log entry 33. -/
def Obligations.ReadEmu1541Result : Prop :=
  ∀ s : State, s.ready → s.self.mode = .emulating1541 → s.self.phase = .realtime → s.self.chipKind = .via1541 →
    (s.cfg.splitIECLines && !s.cfg.platformSupportsSplit) = false →
    let d := s.cur
    let x := s.self
    let raw := if s.readEligible d then s.gpioAnswer d else x.rawSample
    let atn := sense s.cfg raw s.cfg.pinAtn
    let g := x.lines.viaAtna != atn
    let data := (g || x.lines.dataSetToOut) || sense s.cfg raw s.cfg.pinData
    let clock := x.lines.clockSetToOut || sense s.cfg raw s.cfg.pinClock
    ∃ t, exec .readEmu1541 s = .next t ∧ SameOutside d s t ∧
      t.trace = s.trace ++ (if s.readEligible d then [.gpioRead d raw] else []) ++
        [.setInput d s.cfg.inAtn atn, .inputCA1 d atn, .setInput d s.cfg.inData data,
          .setInput d s.cfg.inClock clock] ∧
      t.drive d =
        { x with
          rawSample := raw
          samplePolled := !s.readEligible d && x.samplePolled
          lines := { x.lines with
            piAtn := atn
            atnaDataSetToOut := g
            piData := data
            piClock := clock
            resetting := !s.cfg.ignoreReset && sense s.cfg raw s.cfg.pinReset }
          env := (t.drive d).env }

/-- `READ_EMU_1581`: as `READ_EMU_1541` with the AND gate, the FLAG pin instead of CA1, and SRQ with loopback. A fresh
sample is not polled yet, log entry 33. -/
def Obligations.ReadEmu1581Result : Prop :=
  ∀ s : State, s.ready → s.self.mode = .emulating1581 → s.self.phase = .realtime → s.self.chipKind = .cia1581 →
    (s.cfg.splitIECLines && !s.cfg.platformSupportsSplit) = false →
    let d := s.cur
    let x := s.self
    let raw := if s.readEligible d then s.gpioAnswer d else x.rawSample
    let atn := sense s.cfg raw s.cfg.pinAtn
    let g := x.lines.viaAtna && atn
    let data := (g || x.lines.dataSetToOut) || sense s.cfg raw s.cfg.pinData
    let clock := x.lines.clockSetToOut || sense s.cfg raw s.cfg.pinClock
    ∃ t, exec .readEmu1581 s = .next t ∧ SameOutside d s t ∧
      t.trace = s.trace ++ (if s.readEligible d then [.gpioRead d raw] else []) ++
        [.setInput d s.cfg.inAtn atn, .setPinFLAG d (atn != s.cfg.flagActiveLow), .setInput d s.cfg.inData data,
          .setInput d s.cfg.inClock clock] ∧
      t.drive d =
        { x with
          rawSample := raw
          samplePolled := !s.readEligible d && x.samplePolled
          lines := { x.lines with
            piAtn := atn
            atnaDataSetToOut := g
            piData := data
            piClock := clock
            piSRQ := x.lines.srqSetToOut || sense s.cfg raw s.cfg.pinSRQ
            resetting := !s.cfg.ignoreReset && sense s.cfg raw s.cfg.pinReset }
          env := (t.drive d).env }

/-- The sense operations never write an intent flag or a set-to-output flag other than the gate's, never drive a pin,
never change the mode, never fail, and read the pins at most once (R118). -/
def Obligations.SenseOperationsNever : Prop :=
  ∀ (i : Instr) (s : State), i = .readBrowse ∨ i = .readEmu1541 ∨ i = .readEmu1581 →
    (∀ r, exec i s ≠ .fault r) ∧ ∀ t, exec i s = .next t →
    let l := s.self.lines
    let m := (t.drive s.cur).lines
    (m.viaAtna = l.viaAtna ∧ m.viaData = l.viaData ∧ m.viaClock = l.viaClock) ∧
      (m.dataSetToOut = l.dataSetToOut ∧ m.clockSetToOut = l.clockSetToOut ∧ m.srqSetToOut = l.srqSetToOut) ∧
      (t.drive s.cur).out = s.self.out ∧ (t.drive s.cur).mode = s.self.mode ∧
      ∃ es, t.trace = s.trace ++ es ∧ (∀ e ∈ es, e.isDrive = false) ∧ (es.filter Event.isRead).length ≤ 1

/-- The loopback invariant holds immediately after any `PORTB_OUT`, `READ_EMU_1541` or `READ_EMU_1581` (R24); a read
that the unsupported configuration makes a no-op (R116) keeps it. -/
def Obligations.LoopbackAfterBusOperations : Prop :=
  ∀ (s t : State) (i : Instr), exec i s = .next t →
    ((∃ status, i = .portBOut status) → LoopbackOk (t.drive s.cur)) ∧
      (i = .readEmu1541 ∨ i = .readEmu1581 →
        ((s.cfg.splitIECLines && !s.cfg.platformSupportsSplit) = false ∨ LoopbackOk s.self) →
        LoopbackOk (t.drive s.cur))

/-! ## Driving -/

/-- `PORTB_OUT status`: the intents with the direction rule, the gate, the set-to-output flags and the loopback toward
true; a released line keeps its sensed flag. The direction mask that is read is no event, log entry 35. -/
def Obligations.PortBOutResult : Prop :=
  ∀ (s : State) (status : Byte), s.ready →
    let d := s.cur
    let x := s.self
    let dir := s.directionAnswer d
    let atna := (status &&& s.cfg.stAtna) != 0
    let data := (status &&& s.cfg.stDataOut) != 0 || (dir &&& s.cfg.stDataOut) == 0
    let clock := (status &&& s.cfg.stClockOut) != 0 || (dir &&& s.cfg.stClockOut) == 0
    let g := match x.chipKind with
      | .via1541 => atna != x.lines.piAtn
      | .cia1581 => atna && x.lines.piAtn
    ∃ t, exec (.portBOut status) s = .next t ∧ SameOutside d s t ∧
      t.trace = s.trace ++ (if g || data then [.setInput d s.cfg.inData true] else []) ++
        (if clock then [.setInput d s.cfg.inClock true] else []) ∧
      t.drive d =
        { x with
          lines := { x.lines with
            viaAtna := atna
            viaData := data
            viaClock := clock
            atnaDataSetToOut := g
            dataSetToOut := data
            clockSetToOut := clock
            piData := (g || data) || x.lines.piData
            piClock := clock || x.lines.piClock }
          env := (t.drive d).env }

/-- `SET_SRQ_OUT b`: its two words; `SRQSetToOut` is `b`, and `PI_SRQ` becomes true with it but never false (R136). -/
def Obligations.SetSrqOutResult : Prop :=
  decode 0x0008 = .ok (.setSrqOut false) ∧ decode 0x0108 = .ok (.setSrqOut true) ∧
    ∀ (s : State) (b : Bool), s.ready →
      exec (.setSrqOut b) s =
        .next (s.mod s.cur fun x =>
          { x with lines := { x.lines with srqSetToOut := b, piSRQ := b || x.lines.piSRQ } })

/-- Both refreshes present the same vector of the current flags, store it in `Out` and change no flag. -/
def Obligations.RefreshPresentsVector : Prop :=
  ∀ (s : State) (i : Instr), s.ready → (s.cfg.splitIECLines && !s.cfg.platformSupportsSplit) = false →
    ((i = .refresh1541 ∧ s.self.chipKind = .via1541) ∨ (i = .refresh1581 ∧ s.self.chipKind = .cia1581)) →
    let l := s.self.lines
    let v : DriveVector :=
      ⟨l.dataSetToOut || l.atnaDataSetToOut, l.clockSetToOut, l.srqSetToOut, s.self.outputLED, s.self.outputSound⟩
    exec i s = .next ((s.mod s.cur fun x => { x with out := v }).emit (.gpioDrive s.cur v))

/-- `BUS_RESET`: the twelve line flags are released; under `CIA1581` the outputs are refreshed at once, with the LED
and sound as they are; under `VIA1541` no pin is driven. -/
def Obligations.BusResetResult : Prop :=
  ∀ s : State, s.ready →
    let d := s.cur
    let released : Lines :=
      { piAtn := false, piData := false, piClock := false, piSRQ := false, resetting := false, viaAtna := false,
        viaData := false, viaClock := false, dataSetToOut := false, clockSetToOut := false,
        atnaDataSetToOut := false, srqSetToOut := false }
    let r := s.mod d fun x => { x with lines := released }
    let v : DriveVector := ⟨false, false, false, s.self.outputLED, s.self.outputSound⟩
    let unsupported := s.cfg.splitIECLines && !s.cfg.platformSupportsSplit
    (s.self.chipKind = .via1541 → exec .busReset s = .next r) ∧
      (s.self.chipKind = .cia1581 → unsupported = false →
        exec .busReset s = .next ((r.mod d fun x => { x with out := v }).emit (.gpioDrive d v))) ∧
      (s.self.chipKind = .cia1581 → unsupported = true → s.self.notImplReported = false →
        exec .busReset s =
          .next ((r.mod d fun x => { x with notImplReported := true }).emit (.log d .notImplemented))) ∧
      (s.self.chipKind = .cia1581 → unsupported = true → s.self.notImplReported = true → exec .busReset s = .next r)

/-- `BUS_RESET` twice leaves the record as once, and does not touch the mode. -/
def Obligations.BusResetIdempotent : Prop :=
  ∀ s t : State, exec .busReset s = .next t →
    (t.drive s.cur).mode = s.self.mode ∧
      ∃ u, exec .busReset t = .next u ∧ SameOutside s.cur t u ∧ u.drive s.cur = t.drive s.cur

/-- Only the refreshes, the `CIA1581` arm of `BUS_RESET` and what runs one of them change the pins: every other
operation leaves `Out` alone and emits no `GpioDrive`; so does a move of the loop that is not the session entry of
`EMULATE_ENTER`, step e or step jx, and so does a request. -/
def Obligations.PinsChangeOnlyInRefresh : Prop :=
  (∀ (i : Instr) (s t : State), exec i s = .next t →
    i ∉ [Instr.refresh1541, .refresh1581, .busReset, .emulateEnter, .tick, .tickE, .tickJX, .fastpathEvent .fpReset] →
    (t.drive s.cur).out = s.self.out ∧ ∃ es, t.trace = s.trace ++ es ∧ ∀ e ∈ es, e.isDrive = false) ∧
    ∀ (s t : State) (d : DriveId) (rest : List Move), step s = .next t →
      (s.agenda = .advance d :: rest ∧ (s.drive d).todo.head? ≠ some .enterSession ∧
          ¬((s.drive d).todo = [] ∧ (s.drive d).phase = .realtime ∧ (s.drive d).tickStep ∈ [TickStep.e, .jx])) ∨
        (∃ r, s.agenda = .request d r :: rest) →
      (t.drive d).out = (s.drive d).out ∧ ∃ es, t.trace = s.trace ++ es ∧ ∀ e ∈ es, e.isDrive = false

/-! ## The debouncer -/

/-- `POLL_BUTTONS` of an eligible instance on a sample that is not polled yet: every button that has a mask advances by
one poll of the held sample, and nothing else changes, but that the sample is now polled: a second poll of it is refused.
The field `samplePolled`, the refusal, and that the bare word runs at every control point are log entry 33. -/
def Obligations.PollButtonsResult : Prop :=
  ∀ s : State, s.ready → s.readEligible s.cur = true → s.self.samplePolled = false →
    let d := s.cur
    let n := s.cfg.debounceThreshold
    ∃ (bs : List Button) (t : State), t = (s.mod d fun x => { x with buttons := bs, samplePolled := true }) ∧
      exec .pollButtons s = .next t ∧ exec .pollButtons t = .refused .outOfPlace ∧
      bs.length = s.self.buttons.length ∧
      (∀ i : Nat, s.cfg.pinButtons.length ≤ i → bs[i]? = s.self.buttons[i]?) ∧
      ∀ (i : Nat) (m : RawWord) (b : Button), s.cfg.pinButtons[i]? = some m → s.self.buttons[i]? = some b →
        (s.self.rawSample &&& m ≠ 0 → bs[i]? = some ⟨false, 0, 0, 0, false, false⟩) ∧
        (s.self.rawSample &&& m = 0 → b.count + 1 = n →
          bs[i]? = some ⟨true, n, n + repeatInterval s.cfg 1, 1, true, true⟩) ∧
        (s.self.rawSample &&& m = 0 → b.count + 1 ≠ n → b.pressed = true → b.count + 1 = b.repThr →
          bs[i]? =
            some ⟨true, b.count + 1, b.repThr + repeatInterval s.cfg (b.repCnt + 1), b.repCnt + 1, true, true⟩) ∧
        (s.self.rawSample &&& m = 0 → b.count + 1 ≠ n → ¬(b.pressed = true ∧ b.count + 1 = b.repThr) →
          bs[i]? = some ⟨true, b.count + 1, b.repThr, b.repCnt, b.pressed, false⟩)

/-- After any sequence of polls the count is the length of the run of asserted polls at its end, and the button is
pressed exactly when that run has reached the threshold. -/
def Obligations.DebounceRunLength : Prop :=
  ∀ (c : Config) (polls : List Bool), 1 ≤ c.debounceThreshold →
    let b := polls.foldl (fun b a => pollButton c a b) Button.powerOn
    b.count = (polls.reverse.takeWhile id).length ∧ b.pressed = decide (c.debounceThreshold ≤ b.count)

/-- A button held from a release fires exactly at the polls `N`, `N + I(1)`, `N + I(1) + I(2)` and so on. -/
def Obligations.RepeatSchedule : Prop :=
  ∀ (c : Config) (n : Nat), 1 ≤ c.debounceThreshold → IntervalsPositive c →
    (((List.replicate n true).foldl (fun b a => pollButton c a b) Button.powerOn).fired = true ↔
      ∃ j, n = c.debounceThreshold + ((List.range j).map fun k => repeatInterval c (k + 1)).sum)

/-! ## The sequencer -/

/-- `BEGIN_EMULATING`: without an image nothing changes; with a current image it is inserted, the chip kind and the
mode follow its type, and `R` is the configured option unless the image is quirky. -/
def Obligations.BeginEmulatingResult : Prop :=
  ∀ s : State, s.ready → s.self.mode = .iecCommands → s.self.phase = .idle →
    let d := s.cur
    (s.self.caddy.images = [] → exec .beginEmulating s = .next s) ∧
      ∀ img, s.self.caddy.images[s.self.caddy.current]? = some img →
        let m : Mode := if img.info.isD81 then .emulating1581 else .emulating1541
        exec .beginEmulating s =
          .next ((s.mod d fun x =>
            { x with
              driveImage := some img
              chipKind := if img.info.isD81 then .cia1581 else .via1541
              mode := m
              session := { x.session with
                refreshAfter := s.cfg.refreshOutsAfterCPUStep && !decide (img.info.hash ∈ s.cfg.quirkHashes) } }).emit
            (.modeChange d m))

/-- `EMULATE_ENTER` with the lock free, all its atomic steps taken before another agent acts (`3 ≤ s.unbroken`: the
model's field, log entry 11; the steps one by one are `MultiStepOperationsAreInterruptible`): the instance is counted,
the bus unit is reset, the session registers are cleared, and the session starts in fast boot, or in real time when
there is none. The head value that is read is no event, log entry 35. -/
def Obligations.EmulateEnterResult : Prop :=
  ∀ s : State, s.ready → 3 ≤ s.unbroken → s.lock = .free → s.self.mode.emulating = true → s.self.phase = .idle →
    s.self.session.inLoop = false →
    let d := s.cur
    let x := s.self
    let v : DriveVector := ⟨false, false, false, x.outputLED, x.outputSound⟩
    let unsupported := s.cfg.splitIECLines && !s.cfg.platformSupportsSplit
    let refreshed := decide (x.chipKind = .cia1581) && !unsupported
    let reported := decide (x.chipKind = .cia1581) && unsupported
    ∃ t, exec .emulateEnter s = .next t ∧
      t.dualDrive = s.dualDrive + 1 ∧ t.lock = .free ∧ t.drive d.other = s.drive d.other ∧ t.cfg = s.cfg ∧
      t.cur = d ∧ t.side = s.side ∧ t.agenda = s.agenda ∧ t.unbroken = s.unbroken ∧
      t.trace = s.trace ++ (if refreshed then [.gpioDrive d v] else []) ++
        (if reported && !x.notImplReported then [.log d .notImplemented] else []) ∧
      t.drive d =
        { x with
          lines := Lines.released
          out := if refreshed then v else x.out
          notImplReported := x.notImplReported || reported
          phase := if 0 < s.cfg.fastBootCycles then .fastboot else .realtime
          tickStep := .a
          session :=
            { exitReason := .unknown, refreshAfter := x.session.refreshAfter, cycleCount := 0,
              before := x.session.before, snoopIdx := 0, countdownActive := false, exitCountdown := 0,
              resetCount := 0, ledPrev := false, headPrev := s.headAnswer d, soundRemaining := 0, soundPhase := 0,
              pendExit := false, pendAutoload := false, pendUnmount := false, pendSwap := .none, inLoop := true }
          env := (t.drive d).env }

/-- `FASTBOOT_STEP`: the chip's calls take effect one after the other, the cycle is counted, and the last one starts
the real-time phase; nothing else happens. The calls are no events of their own, log entry 35. -/
def Obligations.FastbootStepResult : Prop :=
  ∀ s : State, s.ready → s.self.mode.emulating = true → s.self.phase = .fastboot →
    let d := s.cur
    let n := s.self.session.cycleCount + 1
    ∃ u, execAll ((s.callsAnswer d).map ChipCall.instr) (s.spend d .calls) = .next u ∧
      exec .fastbootStep s =
        .next ((u.mod d fun x =>
          { x with
            session := { x.session with cycleCount := n }
            phase := if n = s.cfg.fastBootCycles then .realtime else .fastboot
            tickStep := if n = s.cfg.fastBootCycles then .a else x.tickStep }).emit (.cpuStep d))

/-- `EMULATE_EXIT` with the lock free, all its atomic steps taken before another agent acts (`3 ≤ s.unbroken`: the
model's field, log entry 11; the result field is log entry 17): the instance is counted out, the caddy is emptied, the
mode is `IEC_COMMANDS`, the reason is returned, and the return to root is signalled after a reset if configured; the bus
unit, `Out`, the debouncer and the latches keep their values. -/
def Obligations.EmulateExitResult : Prop :=
  ∀ s : State, s.ready → 3 ≤ s.unbroken → s.lock = .free → s.self.mode.emulating = true → s.self.phase = .idle →
    s.self.session.exitReason ≠ .unknown → s.self.session.inLoop = true →
    let d := s.cur
    let x := s.self
    ∃ t, exec .emulateExit s = .next t ∧
      t.dualDrive = s.dualDrive - 1 ∧ t.lock = .free ∧ t.drive d.other = s.drive d.other ∧ t.cfg = s.cfg ∧
      t.cur = d ∧ t.side = s.side ∧ t.agenda = s.agenda ∧ t.unbroken = s.unbroken ∧
      t.trace = s.trace ++ [.modeChange d .iecCommands] ++
        (if x.session.exitReason = .reset ∧ s.cfg.resetToRoot = true then [.returnToRoot d] else []) ∧
      t.drive d =
        { x with
          session := { x.session with inLoop := false }
          caddy := ⟨[], 0⟩
          driveImage := none
          mode := .iecCommands
          result := .exit x.session.exitReason }

/-- `FASTPATH_EVENT IMAGE_SELECTED` when the caddy is full or the image cannot be opened: the failure is reported, and
neither the mode nor the caddy nor the drive model's image changes. What `OpenImage` answers is no event, log entry
35. -/
def Obligations.ImageSelectedMountFails : Prop :=
  ∀ s : State, s.ready → s.self.mode = .iecCommands →
    (s.self.caddy.images.length = s.cfg.maxImages ∨
      s.openAnswer s.cur s.side.file s.side.readOnly = none) →
    let d := s.cur
    ∃ t, exec (.fastpathEvent .imageSelected) s = .next t ∧ SameOutside d s t ∧
      t.trace = s.trace ++ [.log d .mountFailed] ∧
      t.drive d =
        { s.self with
          latches := { s.self.latches with reqMount := none }
          env := (t.drive d).env }

/-- `FASTPATH_EVENT IMAGE_SELECTED` when the image opens: it is appended, a first image becomes current, and the
current image of the caddy starts emulating. What `OpenImage` answers is no event, log entry 35. -/
def Obligations.ImageSelectedBegins : Prop :=
  ∀ (s : State) (img : Image), s.ready → s.self.mode = .iecCommands → CaddyOk s.cfg s.self.caddy →
    s.self.caddy.images.length ≠ s.cfg.maxImages →
    s.openAnswer s.cur s.side.file s.side.readOnly = some img →
    let d := s.cur
    let x := s.self
    let images := x.caddy.images ++ [img]
    ∃ t sel, exec (.fastpathEvent .imageSelected) s = .next t ∧ SameOutside d s t ∧
      images[x.caddy.current]? = some sel ∧
      t.trace = s.trace ++ [.modeChange d (if sel.info.isD81 then .emulating1581 else .emulating1541)] ∧
      t.drive d =
        { x with
          latches := { x.latches with reqMount := none }
          caddy := { images := images, current := x.caddy.current }
          driveImage := some sel
          chipKind := if sel.info.isD81 then .cia1581 else .via1541
          mode := if sel.info.isD81 then .emulating1581 else .emulating1541
          session := { x.session with
            refreshAfter := s.cfg.refreshOutsAfterCPUStep && !decide (sel.info.hash ∈ s.cfg.quirkHashes) }
          env := (t.drive d).env }

/-- `FASTPATH_EVENT STATE_CHANGE` takes a pending device number over and changes nothing else; `FP_RESET` is
`BUS_RESET`, and goes on. -/
def Obligations.FastpathStateChangeAndReset : Prop :=
  ∀ s : State, s.ready → s.self.mode = .iecCommands →
    (s.self.latches.reqDeviceID = none → exec (.fastpathEvent .stateChange) s = .next s) ∧
      (∀ n, s.self.latches.reqDeviceID = some n →
        exec (.fastpathEvent .stateChange) s =
          .next (s.mod s.cur fun x =>
            { x with deviceID := n, latches := { x.latches with reqDeviceID := none } })) ∧
      ∃ t, exec (.fastpathEvent .fpReset) s = .next t ∧ exec .busReset s = .next t

/-- `SHUTDOWN` on a pending request, of an instance that is not counted in its loop (R191 corner case 3, log entry 32):
the terminal mode is entered and the latch is cleared. -/
def Obligations.ShutdownResult : Prop :=
  ∀ s : State, s.ready → s.self.mode = .iecCommands → s.self.latches.reqShutdown = true →
    s.self.session.inLoop = false →
    exec .shutdown s =
      .next ((s.mod s.cur fun x =>
        { x with mode := .emulationShutdown, latches := { x.latches with reqShutdown := false } }).emit
        (.modeChange s.cur .emulationShutdown))

/-- Every operation runs where its precondition holds and is refused everywhere else: out of place by that name, as U1
asks; in the terminal mode, while atomic steps are left, and at an instance that does not exist by the names of log entry
15. The loop of an instance in the terminal mode is stuck (log entry 23). `precondition` lists what the rules state; where
they state it for the owner only, log entries 16, 32 and 33. -/
def Obligations.OperationsRunExactlyInPlace : Prop :=
  ∀ (i : Instr) (s : State),
    (s.ready → precondition i s → completes (exec i s)) ∧
      (s.ready → ¬precondition i s → exec i s = .refused .outOfPlace) ∧
      (s.present s.cur = true → s.self.mode = .emulationShutdown →
        exec i s = .refused .shutDown ∧ ∀ rest, s.agenda = .advance s.cur :: rest → step s = .fault .stuckInShutdown) ∧
      (s.present s.cur = true → s.self.mode ≠ .emulationShutdown → s.self.todo ≠ [] → exec i s = .refused .busy) ∧
      (s.present s.cur = false → exec i s = .refused .absentInstance)

/-- The transition table of the mode: no other transition exists (R192). An operation that changes the mode is a row of
the table. A step that changes the mode of an instance issues such an operation there, or is the loop's own last step of
`EMULATE_EXIT`: that of an emulating instance with a recorded exit, back to `IEC_COMMANDS`. -/
def Obligations.ModeTransitionTable : Prop :=
  (∀ (i : Instr) (s t : State), exec i s = .next t → (t.drive s.cur).mode ≠ s.self.mode →
    modeRow i s.self (t.drive s.cur)) ∧
    ∀ (s t : State) (d : DriveId), LoopInv s → step s = .next t → (t.drive d).mode ≠ (s.drive d).mode →
      (∃ w side n rest i, s.agenda = .issue d w side n :: rest ∧ decode w = .ok i ∧ modeRow i (s.drive d) (t.drive d)) ∨
        ((∃ rest, s.agenda = .advance d :: rest) ∧ (s.drive d).todo = [.leaveSession] ∧
          (s.drive d).mode.emulating = true ∧ (s.drive d).session.exitReason ≠ .unknown ∧
          (t.drive d).mode = .iecCommands)

/-! ## The tick -/

/-- `TICK_A`: its word; the timestamp that `Now()` answers is captured (R173). That the answer is no event is DEDUCED, log
entry 35; that the answers are monotonic is not claimed, log entry 8. -/
def Obligations.TickAResult : Prop :=
  decode 0x0050 = .ok .tickA ∧
    ∀ s : State, s.ready → s.self.mode.emulating = true → s.self.phase = .realtime → s.self.tickStep = .a →
      let d := s.cur
      ∃ t, exec .tickA s = .next t ∧ SameOutside d s t ∧ t.trace = s.trace ∧
        t.drive d =
          { s.self with
            session := { s.self.session with before := s.nowAnswer d }
            tickStep := .b
            env := (t.drive d).env }

/-- `TICK_B`: its word; the read of the session's drive, unless it is deferred (R174). -/
def Obligations.TickBResult : Prop :=
  decode 0x0051 = .ok .tickB ∧
    ∀ s : State, s.ready → SessionOk s.self → s.self.phase = .realtime → s.self.tickStep = .b →
      let d := s.cur
      (s.self.session.refreshAfter = false → exec .tickB s = .next (s.mod d fun x => { x with tickStep := .c })) ∧
        (s.self.session.refreshAfter = true →
          ∃ u, exec (readEmuInstr s.self.mode) s = .next u ∧
            exec .tickB s = .next (u.mod d fun x => { x with tickStep := .c }))

/-- `TICK_C`: at an instruction boundary at a snoop address, the byte is matched; the fifth match in a row starts the
countdown unless one runs, and a mismatch starts over. What the CPU answers is no event, log entry 35. -/
def Obligations.TickCResult : Prop :=
  ∀ s : State, s.ready → s.self.mode.emulating = true → s.self.phase = .realtime → s.self.tickStep = .c →
    let d := s.cur
    let z := s.self.session
    let v := s.cpuAnswer d
    let pcs := if s.self.mode = .emulating1541 then s.cfg.snoopPcs1541 else s.cfg.snoopPcs1581
    let z' : Session :=
      if v.sync = true ∧ v.pc ∈ pcs then
        if v.a = s.cfg.snoopSig[z.snoopIdx] then
          if z.snoopIdx = 4 then
            { z with
              snoopIdx := 0
              countdownActive := true
              exitCountdown := if z.countdownActive then z.exitCountdown else s.cfg.exitCountdown }
          else { z with snoopIdx := z.snoopIdx + 1 }
        else { z with snoopIdx := 0 }
      else z
    ∃ t, exec .tickC s = .next t ∧ SameOutside d s t ∧ t.trace = s.trace ∧
      t.drive d = { s.self with session := z', tickStep := .d, env := (t.drive d).env }

/-- `TICK_D`: its word; the chip's calls take effect one after the other, then the CPU has stepped (R176). The calls are
no events of their own, log entry 35. -/
def Obligations.TickDResult : Prop :=
  decode 0x0053 = .ok .tickD ∧
    ∀ s : State, s.ready → s.self.mode.emulating = true → s.self.phase = .realtime → s.self.tickStep = .d →
      let d := s.cur
      ∃ u, execAll ((s.callsAnswer d).map ChipCall.instr) (s.spend d .calls) = .next u ∧
        exec .tickD s = .next ((u.mod d fun x => { x with tickStep := .e }).emit (.cpuStep d))

/-- `TICK_E`: the refresh of the session's drive, unless it is deferred (R177). -/
def Obligations.TickEResult : Prop :=
  ∀ s : State, s.ready → SessionOk s.self → s.self.phase = .realtime → s.self.tickStep = .e →
    let d := s.cur
    (s.self.session.refreshAfter = false → exec .tickE s = .next (s.mod d fun x => { x with tickStep := .f })) ∧
      (s.self.session.refreshAfter = true →
        ∃ u, exec (refreshInstr s.self.mode) s = .next u ∧
          exec .tickE s = .next (u.mod d fun x => { x with tickStep := .f }))

/-- `TICK_F`: the LED flag is stored every tick, and the ACT LED is set on an edge only. What the drive model answers is
no event, log entry 35. -/
def Obligations.TickFResult : Prop :=
  ∀ s : State, s.ready → s.self.mode.emulating = true → s.self.phase = .realtime → s.self.tickStep = .f →
    let d := s.cur
    let led := s.ledAnswer d
    ∃ t, exec .tickF s = .next t ∧ SameOutside d s t ∧
      t.trace = s.trace ++ (if led = s.self.session.ledPrev then [] else [.setACTLed d led]) ∧
      t.drive d =
        { s.self with
          outputLED := led
          session := { s.self.session with ledPrev := led }
          tickStep := .g
          env := (t.drive d).env }

/-- `TICK_G`: with DMA a head change starts the sound and the sound pin is left alone; without it the change restarts
the square wave's duration, and one tick of the wave runs. The head value that is read is no event, log entry 35. -/
def Obligations.TickGResult : Prop :=
  ∀ s : State, s.ready → s.self.mode.emulating = true → s.self.phase = .realtime → s.self.tickStep = .g →
    let d := s.cur
    let z := s.self.session
    let moved := s.headAnswer d ≠ z.headPrev
    let left := if moved then s.cfg.soundDuration else z.soundRemaining
    let half := z.soundPhase + 1 = s.cfg.soundHalfPeriod
    ∃ t, exec .tickG s = .next t ∧ SameOutside d s t ∧
      t.trace = s.trace ++ (if s.cfg.soundViaDMA = true ∧ moved then [.headSoundStart d] else []) ∧
      (s.cfg.soundViaDMA = true →
        t.drive d =
          { s.self with
            session := { z with headPrev := s.headAnswer d }, tickStep := .h, env := (t.drive d).env }) ∧
      (s.cfg.soundViaDMA = false → left = 0 →
        t.drive d =
          { s.self with
            session := { z with headPrev := s.headAnswer d, soundRemaining := 0 }
            tickStep := .h
            env := (t.drive d).env }) ∧
      (s.cfg.soundViaDMA = false → left ≠ 0 →
        t.drive d =
          { s.self with
            session := { z with
              headPrev := s.headAnswer d
              soundRemaining := left - 1
              soundPhase := if half ∨ left = 1 then 0 else z.soundPhase + 1 }
            outputSound := if left = 1 then false else if half then !s.self.outputSound else s.self.outputSound
            tickStep := .h
            env := (t.drive d).env })

/-- `TICK_H`: the buttons are polled if the instance is eligible and the sample is not polled yet (R151, D31), the input
map sets latches, exit, auto-load, unmount and mount requests are staged, a mount request stays latched, and one swap
request is staged: next before prev before direct. That R180's pseudocode does not poll a sample again, that the map
then reads the flags of the last poll, and the field `samplePolled` are log entry 33; that the map's bits beyond
`MAX_IMAGES` are dropped is log entry 25. -/
def Obligations.TickHResult : Prop :=
  ∀ s : State, s.ready → s.self.mode.emulating = true → s.self.phase = .realtime → s.self.tickStep = .h →
    let d := s.cur
    let x := s.self
    let bs :=
      if s.readEligible d && !x.samplePolled then pollFile s.cfg x.rawSample s.cfg.pinButtons x.buttons else x.buttons
    let k := inputMap s.cfg (bs.map Button.pressed) (bs.map Button.fired)
    let l := x.latches
    let next := l.reqNext || k.next
    let prev := l.reqPrev || k.prev
    let mask := l.reqDirectMask ||| k.direct % 2 ^ s.cfg.maxImages
    exec .tickH s =
      .next (s.mod d fun x =>
        { x with
          buttons := bs
          samplePolled := s.readEligible d || x.samplePolled
          session := { x.session with
            pendExit := x.session.pendExit || (l.reqExit || k.exit)
            pendAutoload := x.session.pendAutoload || (l.reqAutoload || k.autoload)
            pendUnmount := x.session.pendUnmount || l.reqForcedUnmount || l.reqMount.isSome
            pendSwap :=
              if next then .next else if prev then .prev
              else if mask ≠ 0 then .direct (lowestSetBit s.cfg.maxImages mask) else x.session.pendSwap }
          latches := { l with
            reqExit := false
            reqAutoload := false
            reqForcedUnmount := false
            reqNext := false
            reqPrev := if next then prev else false
            reqDirectMask := if next || prev then mask else 0 }
          tickStep := .i })

/-- `TICK_I`: the counters advance, and the first exit condition that holds, in the order RESET, exit-to-menu,
auto-load, countdown, unmount, is recorded and ends the loop; with none the tick goes on to step j. -/
def Obligations.TickIResult : Prop :=
  ∀ s : State, s.ready → s.self.mode.emulating = true → s.self.phase = .realtime → s.self.tickStep = .i →
    let d := s.cur
    let z := s.self.session
    let resets := if s.self.lines.resetting then z.resetCount + 1 else 0
    let left := if z.countdownActive then z.exitCountdown - 1 else z.exitCountdown
    let z' : Session := { z with resetCount := resets, exitCountdown := left }
    let exits (r : ExitType) : Prop :=
      exec .tickI s =
        .next ((s.mod d fun x => { x with session := { z' with exitReason := r }, phase := .idle }).emit (.exit d r))
    (resets > s.cfg.resetThreshold → exits .reset) ∧
      (¬resets > s.cfg.resetThreshold → z.pendExit = true → exits .keyboard) ∧
      (¬resets > s.cfg.resetThreshold → z.pendExit = false → z.pendAutoload = true → exits .autoload) ∧
      (¬resets > s.cfg.resetThreshold → z.pendExit = false → z.pendAutoload = false →
        (z.countdownActive = true ∧ left = 0 → exits .cd) ∧
          (¬(z.countdownActive = true ∧ left = 0) →
            (z.pendUnmount = true → exits .keyboard) ∧
              (z.pendUnmount = false →
                exec .tickI s = .next (s.mod d fun x => { x with session := z', tickStep := .j }))))

/-- `TICK_J`: a lost cycle is logged exactly when the first elapsed time is greater than the period; no state but the
step changes. The timestamps that are read are no events, log entry 35. -/
def Obligations.TickJResult : Prop :=
  ∀ s : State, s.ready → s.self.mode.emulating = true → s.self.phase = .realtime → s.self.tickStep = .j →
    let d := s.cur
    let e := elapsed s.cfg (s.nowAnswer d) s.self.session.before
    ∃ t, exec .tickJ s = .next t ∧ SameOutside d s t ∧
      t.trace = s.trace ++ (if e > s.cfg.tickPeriod then [.log d .lostCycle] else []) ∧
      t.drive d = { s.self with tickStep := .jx, env := (t.drive d).env }

/-- `TICK_JX`: with the option false, the refresh and then the read of the session's drive; else nothing (R184). -/
def Obligations.TickJXResult : Prop :=
  ∀ s : State, s.ready → SessionOk s.self → s.self.phase = .realtime → s.self.tickStep = .jx →
    let d := s.cur
    (s.self.session.refreshAfter = true → exec .tickJX s = .next (s.mod d fun x => { x with tickStep := .k })) ∧
      (s.self.session.refreshAfter = false →
        ∃ u v, exec (refreshInstr s.self.mode) s = .next u ∧ exec (readEmuInstr s.self.mode) u = .next v ∧
          exec .tickJX s = .next (v.mod d fun x => { x with tickStep := .k }))

/-- `TICK_K`: with more than one image a staged swap selects the target, which is inserted if it is another image of
the live drive's type and is otherwise not selected; the request is dropped in every case. -/
def Obligations.TickKResult : Prop :=
  ∀ s : State, s.ready → s.self.mode.emulating = true → s.self.phase = .realtime → s.self.tickStep = .k →
    CaddyOk s.cfg s.self.caddy →
    let d := s.cur
    let x := s.self
    let n := x.caddy.images.length
    let target :=
      match x.session.pendSwap with
      | .none => x.caddy.current
      | .next => (x.caddy.current + 1) % n
      | .prev => (x.caddy.current + n - 1) % n
      | .direct k => if k < n then k else x.caddy.current
    let kept := s.mod d fun x => { x with session := { x.session with pendSwap := .none }, tickStep := .a }
    (n ≤ 1 ∨ target = x.caddy.current → exec .tickK s = .next kept) ∧
      (1 < n → target ≠ x.caddy.current → ∃ img, x.caddy.images[target]? = some img ∧
        (img.info.isD81 ≠ decide (x.chipKind = .cia1581) → exec .tickK s = .next kept) ∧
        (img.info.isD81 = decide (x.chipKind = .cia1581) →
          exec .tickK s =
            .next (kept.mod d fun y =>
              { y with
                caddy := { y.caddy with current := target }
                driveImage := some img
                session := { y.session with
                  refreshAfter := y.session.refreshAfter && !decide (img.info.hash ∈ s.cfg.quirkHashes) } })))

/-- One `TICK` is its sub-steps: interrupted within a to i it is those taken so far, and run whole
(`11 ≤ s.unbroken`) it is a to i, and then j, jx and k unless i recorded an exit. Each sub-step finds its precondition
met, and all go on. How many sub-steps are taken before another agent acts is the model's field `unbroken`, log entries 10
and 11. -/
def Obligations.TickIsItsSubsteps : Prop :=
  (∀ s : State, s.ready → SessionOk s.self → s.self.phase = .realtime → s.self.tickStep = .a → s.unbroken ≤ 8 →
    completes (exec .tick s) ∧ exec .tick s = execAll (tickInstrsToI.take (s.unbroken + 1)) s) ∧
  ∀ s : State, s.ready → SessionOk s.self → s.self.phase = .realtime → s.self.tickStep = .a → 11 ≤ s.unbroken →
    ∃ t u, execAll tickInstrsToI s = .next t ∧ exec .tick s = .next u ∧
      ((t.drive s.cur).session.exitReason = .unknown → execAll tickInstrsAfterI t = .next u ∧
        (u.drive s.cur).tickStep = .a ∧ (u.drive s.cur).phase = .realtime) ∧
      ((t.drive s.cur).session.exitReason ≠ .unknown → u = t ∧ (u.drive s.cur).phase = .idle)

/-! ## The arbiter -/

/-- `DD_ENTER` and `DD_EXIT` with the lock free, their three atomic steps taken before another agent acts
(`2 ≤ s.unbroken`: the model's field, log entry 11): the counter and `InLoop` change together, and the lock is free at
the end. That a bare word runs at every such control point is log entry 16. -/
def Obligations.ArbiterCountsInstance : Prop :=
  ∀ s : State, s.ready → 2 ≤ s.unbroken → s.lock = .free →
    (s.self.session.inLoop = false →
      exec .ddEnter s =
        .next (({ s with dualDrive := s.dualDrive + 1 } : State).mod s.cur fun x =>
          { x with session := { x.session with inLoop := true } })) ∧
      (s.self.session.inLoop = true →
        exec .ddExit s =
          .next (({ s with dualDrive := s.dualDrive - 1 } : State).mod s.cur fun x =>
            { x with session := { x.session with inLoop := false } }))

/-- While the lock is held, an operation that begins with `Acquire` waits at its first step: nothing but its step list
changes. -/
def Obligations.HeldLockMakesOperationsWait : Prop :=
  ∀ (s : State) (e : DriveId), s.ready → s.lock = .held e →
    let waits (ts : List LockStep) : State := s.mod s.cur fun x => { x with todo := ts }
    (s.self.session.inLoop = false → exec .ddEnter s = .next (waits [.acquire, .countUp, .release])) ∧
      (s.self.session.inLoop = true → exec .ddExit s = .next (waits [.acquire, .countDown, .release])) ∧
      (s.self.mode.emulating = true → s.self.phase = .idle → s.self.session.inLoop = false →
        exec .emulateEnter s = .next (waits [.acquire, .countUp, .release, .enterSession])) ∧
      (s.self.mode.emulating = true → s.self.phase = .idle → s.self.session.inLoop = true →
        s.self.session.exitReason ≠ .unknown →
        exec .emulateExit s = .next (waits [.acquire, .countDown, .release, .leaveSession]))

/-- The operations of several atomic steps (R11). Wherever an issued one is interrupted, the loop's own moves finish it:
they lead to the state in which it ends when nothing falls between its steps, and for a `TICK` to the state after its
sub-steps one by one. After the first step of `DD_ENTER` or `DD_EXIT` the lock is held and nothing is counted yet, the
second one counts, and the third one releases; an entering loop takes the same steps by its own moves. The fields
`unbroken` and `todo` and the moves are the model's, log entries 9, 10 and 11. -/
def Obligations.MultiStepOperationsAreInterruptible : Prop :=
  (∀ (s : State) (i : Instr) (n : Nat), s.ready →
    ((i = .ddEnter ∧ s.lock = .free ∧ s.self.session.inLoop = false) ∨
      (i = .ddExit ∧ s.lock = .free ∧ s.self.session.inLoop = true) ∨
      (i = .emulateEnter ∧ s.lock = .free ∧ s.self.mode.emulating = true ∧ s.self.phase = .idle ∧
        s.self.session.inLoop = false) ∨
      (i = .emulateExit ∧ s.lock = .free ∧ s.self.mode.emulating = true ∧ s.self.phase = .idle ∧
        s.self.session.exitReason ≠ .unknown ∧ s.self.session.inLoop = true)) →
    ∃ t u v k, exec i { s with unbroken := n } = .next t ∧ exec i { s with unbroken := 11 } = .next u ∧
      k ≤ 3 ∧ advances s.cur k t = .next v ∧ { v with unbroken := 11 } = u) ∧
  (∀ s : State, s.ready → SessionOk s.self → s.self.phase = .realtime → s.self.tickStep = .a →
    ∃ t u v k, exec .tick s = .next t ∧ k ≤ 11 ∧ advances s.cur k t = .next v ∧ execAll tickInstrsToI s = .next u ∧
      ((u.drive s.cur).session.exitReason = .unknown → execAll tickInstrsAfterI u = .next v) ∧
      ((u.drive s.cur).session.exitReason ≠ .unknown → v = u)) ∧
  (∀ s : State, s.ready → s.lock = .free →
    (s.self.session.inLoop = false →
      (s.unbroken = 0 → exec .ddEnter s = .next
        (({ s with lock := .held s.cur } : State).mod s.cur fun x => { x with todo := [.countUp, .release] })) ∧
      (s.unbroken = 1 → exec .ddEnter s = .next
        (({ s with lock := .held s.cur, dualDrive := s.dualDrive + 1 } : State).mod s.cur fun x =>
          { x with session := { x.session with inLoop := true }, todo := [.release] }))) ∧
    (s.self.session.inLoop = true →
      (s.unbroken = 0 → exec .ddExit s = .next
        (({ s with lock := .held s.cur } : State).mod s.cur fun x => { x with todo := [.countDown, .release] })) ∧
      (s.unbroken = 1 → exec .ddExit s = .next
        (({ s with lock := .held s.cur, dualDrive := s.dualDrive - 1 } : State).mod s.cur fun x =>
          { x with session := { x.session with inLoop := false }, todo := [.release] })))) ∧
  ∀ (s : State) (d : DriveId) (rest : List Move), s.present d = true → (s.drive d).todo = [] → s.lock = .free →
    (s.drive d).mode.emulating = true → (s.drive d).phase = .idle → (s.drive d).session.inLoop = false →
    s.agenda = .advance d :: .advance d :: .advance d :: rest →
    ∃ t u v, step s = .next t ∧ step t = .next u ∧ step u = .next v ∧
      (t.lock = .held d ∧ t.dualDrive = s.dualDrive ∧ (t.drive d).session.inLoop = false) ∧
      (u.lock = .held d ∧ u.dualDrive = s.dualDrive + 1 ∧ (u.drive d).session.inLoop = true) ∧
      (v.lock = .free ∧ v.dualDrive = s.dualDrive + 1 ∧ (v.drive d).todo = [.enterSession] ∧ v.agenda = rest)

/-- When the bank is shared and the counter is the number of instances in their loop, exactly one instance is
read-eligible. -/
def Obligations.ReadEligibilityIsExclusive : Prop :=
  ∀ s : State, s.dualDrive = loopCount s → s.cfg.dualDrive = true → s.cfg.sharedGPIO = true →
    ∃ d, s.readEligible d = true ∧ s.readEligible d.other = false

/-! ## The caddy -/

/-- `CADDY_INSERT`: a full caddy fails and asks nothing; an image that does not open fails; an opened image is
appended. What `OpenImage` answers is no event, log entry 35. -/
def Obligations.CaddyInsertResult : Prop :=
  ∀ (s : State) (readOnly : Bool), s.ready → s.self.mode = .iecCommands →
    let d := s.cur
    let x := s.self
    let opened := s.openAnswer d s.side.file readOnly
    (x.caddy.images.length = s.cfg.maxImages →
      exec (.caddyInsert readOnly) s = .next (s.mod d fun x => { x with result := .ok false })) ∧
      (x.caddy.images.length ≠ s.cfg.maxImages →
        ∃ t, exec (.caddyInsert readOnly) s = .next t ∧ SameOutside d s t ∧ t.trace = s.trace ∧
          (opened = none → t.drive d = { x with result := .ok false, env := (t.drive d).env }) ∧
          ∀ img, opened = some img →
            t.drive d =
              { x with
                caddy := { x.caddy with images := x.caddy.images ++ [img] }
                result := .ok true
                env := (t.drive d).env })

/-- `SELECT_IMAGE n`: its word; in `IEC_COMMANDS` or at step k, an index of an image becomes current and the result is
true, any other index changes nothing and the result is false (R228). That every other control point refuses it, the one
between `BEGIN_EMULATING` and `EMULATE_ENTER` too, is DEDUCED, log entry 16 (U1: "a swap operation from outside step k");
the result field is log entry 17. -/
def Obligations.SelectImageResult : Prop :=
  (∀ n : Byte, decode (n ++ (0x42 : Byte)) = .ok (.selectImage n)) ∧
    ∀ (s : State) (n : Byte), s.ready →
      let here := s.self.mode = .iecCommands ∨
        (s.self.mode.emulating = true ∧ s.self.phase = .realtime ∧ s.self.tickStep = .k)
      (here → n.toNat < s.self.caddy.images.length →
        exec (.selectImage n) s =
          .next (s.mod s.cur fun x => { x with caddy := { x.caddy with current := n.toNat }, result := .ok true })) ∧
        (here → s.self.caddy.images.length ≤ n.toNat →
          exec (.selectImage n) s = .next (s.mod s.cur fun x => { x with result := .ok false })) ∧
        (¬here → exec (.selectImage n) s = .refused .outOfPlace)

/-- `SELECT_FIRST`, `NEXT_DISK` and `PREV_DISK`: the first image becomes current; the next and the previous one wrap;
an empty caddy stays as it is. -/
def Obligations.SelectFirstNextPrevResult : Prop :=
  ∀ s : State, s.ready →
    let n := s.self.caddy.images.length
    let cur := s.self.caddy.current
    let select (k : Nat) : State := s.mod s.cur fun x => { x with caddy := { x.caddy with current := k } }
    let swappable := s.self.mode = .iecCommands ∨
      (s.self.mode.emulating = true ∧ s.self.phase = .realtime ∧ s.self.tickStep = .k)
    (s.self.mode = .iecCommands → n ≠ 0 →
      exec .selectFirst s = .next ((select 0).mod s.cur fun x => { x with result := .ok true })) ∧
      (s.self.mode = .iecCommands → n = 0 →
        exec .selectFirst s = .next (s.mod s.cur fun x => { x with result := .ok false })) ∧
      (swappable → n ≠ 0 → exec .nextDisk s = .next (select ((cur + 1) % n))) ∧
      (swappable → n ≠ 0 → exec .prevDisk s = .next (select ((cur + n - 1) % n))) ∧
      (swappable → n = 0 → exec .nextDisk s = .next s ∧ exec .prevDisk s = .next s)

/-- `GET_COUNT` and its word: it returns the number of images, which the caddy invariant bounds by `MAX_IMAGES`, and
changes nothing (R231); what it returns stands in the model's field `result`, log entry 17. -/
def Obligations.GetCountResult : Prop :=
  decode 0x0045 = .ok .getCount ∧
    ∀ s : State, s.ready →
      exec .getCount s = .next (s.mod s.cur fun x => { x with result := .count s.self.caddy.images.length }) ∧
        (CaddyOk s.cfg s.self.caddy → s.self.caddy.images.length ≤ s.cfg.maxImages)

/-! ## The whole machine -/

/-- Every step keeps the arbiter's and the sequencers' invariant: the counter is the number of instances in their loop,
the lock is held exactly inside a locked section, every control point is legal, the chip kind is the mode's, the gate
holds during a session, no exit is recorded while the loop runs, and an instance that is shut down is not counted in its
loop (R212 corner case 2, log entry 32). -/
def Obligations.StepKeepsLoopInvariant : Prop :=
  ∀ s t : State, LoopInv s → step s = .next t → LoopInv t

/-- Every step keeps the caddy invariant: the current index denotes an image of a non-empty caddy, and while an
instance emulates, the drive model holds an image of its caddy. -/
def Obligations.StepKeepsCaddyInvariant : Prop :=
  ∀ s t : State, CaddyInv s → step s = .next t → CaddyInv t

/-- Every step keeps the debouncer right, for every configuration whose threshold and intervals are at least 1: a
button is pressed exactly when its count has reached the threshold, and its next firing is ahead. -/
def Obligations.StepKeepsDebounceInvariant : Prop :=
  ∀ s t : State, 1 ≤ s.cfg.debounceThreshold → IntervalsPositive s.cfg → (∀ d, DebounceOk s.cfg (s.drive d)) →
    step s = .next t → t.cfg = s.cfg ∧ ∀ d, DebounceOk t.cfg (t.drive d)

/-- The machine after power-on meets the invariants, for every choice of the boot inputs; so does `State.reset`. -/
def Obligations.PowerOnMeetsInvariants : Prop :=
  (∀ (c : Config) (out0 out1 : DriveVector) (head0 head1 : HeadValue) (before0 before1 : Timestamp),
    1 ≤ c.debounceThreshold →
    let s := State.powerOn c out0 out1 head0 head1 before0 before1
    LoopInv s ∧ CaddyInv s ∧ ∀ d, DebounceOk c (s.drive d)) ∧
    LoopInv State.reset ∧ CaddyInv State.reset ∧ ∀ d, DebounceOk State.reset.cfg (State.reset.drive d)

/-- What power-on leaves in an instance and in the process-wide record, for every choice of the boot inputs: every row of
R272 and R32. `Out`, `HeadPrev` and `Before` hold what the boot inputs bring; the held sample is a word of `GPIO_W` bits
in which every line senses released and no button is asserted (R28); the dash of `Step` is log entry 6. -/
def Obligations.PowerOnValues : Prop :=
  ∀ (c : Config) (out0 out1 : DriveVector) (head0 head1 : HeadValue) (before0 before1 : Timestamp) (d : DriveId),
    let s := State.powerOn c out0 out1 head0 head1 before0 before1
    let x := s.drive d
    (s.dualDrive = 0 ∧ s.lock = .free ∧ s.cfg = c) ∧
      (x.mode = .iecCommands ∧ x.phase = .idle ∧ x.chipKind = c.powerOnChipKind ∧ x.notImplReported = false) ∧
      x.lines =
        { piAtn := false, piData := false, piClock := false, piSRQ := false, resetting := false, viaAtna := false,
          viaData := false, viaClock := false, dataSetToOut := false, clockSetToOut := false,
          atnaDataSetToOut := false, srqSetToOut := false } ∧
      (x.outputLED = false ∧ x.outputSound = false) ∧
      (x.out = match d with | .drive0 => out0 | .drive1 => out1) ∧
      (x.deviceID = match d with | .drive0 => c.deviceID0 | .drive1 => c.deviceID1) ∧
      (x.caddy.images = [] ∧ x.caddy.current = 0 ∧ x.driveImage = none) ∧
      x.latches = ⟨false, false, false, false, 0, false, none, false, none⟩ ∧
      (∀ b ∈ x.buttons, b = ⟨false, 0, 0, 0, false, false⟩) ∧ x.buttons.length = c.pinButtons.length ∧
      x.session =
        { exitReason := .unknown, refreshAfter := false, cycleCount := 0
          before := match d with | .drive0 => before0 | .drive1 => before1
          snoopIdx := 0, countdownActive := false, exitCountdown := 0, resetCount := 0, ledPrev := false
          headPrev := match d with | .drive0 => head0 | .drive1 => head1
          soundRemaining := 0, soundPhase := 0, pendExit := false, pendAutoload := false, pendUnmount := false
          pendSwap := .none, inLoop := false } ∧
      (c.pinsOneHot = true → c.pinsDistinct = true →
        x.rawSample < 2 ^ c.gpioW ∧ (∀ pin ∈ c.linePins, sense c x.rawSample pin = false) ∧
          ∀ m ∈ c.pinButtons, x.rawSample &&& m ≠ 0)

/-- No operation of one instance touches the other: its whole record, the configuration and the moves still to come
are as before. Neither does any move of an agent of the instance. -/
def Obligations.OtherInstanceUntouched : Prop :=
  (∀ (i : Instr) (s t : State), exec i s = .next t →
    t.drive s.cur.other = s.drive s.cur.other ∧ t.cfg = s.cfg ∧ t.agenda = s.agenda ∧ t.cur = s.cur) ∧
    ∀ (s t : State) (m : Move) (rest : List Move), s.agenda = m :: rest → step s = .next t →
      t.drive m.drive.other = s.drive m.drive.other ∧ t.cfg = s.cfg ∧ t.agenda = rest

/-- No operation of the block faults (R194). -/
def Obligations.NoOperationFaults : Prop :=
  ∀ (i : Instr) (s : State) (r : Fault), exec i s ≠ .fault r
end

