-- ==== Sys2Proof/Laws/State.lean ====
section
/-! SUPPORT. The small lemmas of the state: one for each field and each update, so that no later proof unfolds a record
update. -/

namespace Sys2Proof.Machine

/-! ## Instances -/

@[simp] theorem other_other (d : DriveId) : d.other.other = d := by cases d <;> rfl

@[simp] theorem other_ne (d : DriveId) : d.other ≠ d := by cases d <;> decide

@[simp] theorem ne_other (d : DriveId) : d ≠ d.other := by cases d <;> decide

theorem eq_or_eq_other (d e : DriveId) : e = d ∨ e = d.other := by
  cases d <;> cases e <;> simp [DriveId.other]

@[simp] theorem drive_drive0 (s : State) : s.drive .drive0 = s.d0 := rfl

@[simp] theorem drive_drive1 (s : State) : s.drive .drive1 = s.d1 := rfl

/-! ## setDrive and mod -/

@[simp] theorem drive_setDrive_self (s : State) (d : DriveId) (x : Drive) : (s.setDrive d x).drive d = x := by
  cases d <;> rfl

@[simp] theorem drive_setDrive_other (s : State) (d : DriveId) (x : Drive) :
    (s.setDrive d x).drive d.other = s.drive d.other := by
  cases d <;> rfl

@[simp] theorem drive_mod_self (s : State) (d : DriveId) (f : Drive → Drive) :
    (s.mod d f).drive d = f (s.drive d) := by
  cases d <;> rfl

@[simp] theorem drive_mod_other (s : State) (d : DriveId) (f : Drive → Drive) :
    (s.mod d f).drive d.other = s.drive d.other := by
  cases d <;> rfl

@[simp] theorem mod_mod (s : State) (d : DriveId) (f g : Drive → Drive) :
    (s.mod d f).mod d g = s.mod d fun x => g (f x) := by
  cases d <;> rfl

theorem mod_id (s : State) (d : DriveId) : (s.mod d fun x => x) = s := by
  cases d <;> rfl

/-- A change that leaves this record alone leaves the state alone. -/
theorem mod_eq_self (s : State) (d : DriveId) (f : Drive → Drive) (h : f (s.drive d) = s.drive d) :
    s.mod d f = s := by
  cases d <;> simp_all [State.mod, State.setDrive, State.drive]

/-- A change that does the same to this record is the same change. -/
theorem mod_congr (s : State) (d : DriveId) (f g : Drive → Drive) (h : f (s.drive d) = g (s.drive d)) :
    s.mod d f = s.mod d g := by
  unfold State.mod
  rw [h]

@[simp] theorem setDrive_mod (s : State) (d : DriveId) (x : Drive) (f : Drive → Drive) :
    (s.setDrive d x).mod d f = s.setDrive d (f x) := by
  cases d <;> rfl

@[simp] theorem setDrive_cfg (s : State) (d : DriveId) (x : Drive) : (s.setDrive d x).cfg = s.cfg := by
  cases d <;> rfl

@[simp] theorem mod_cfg (s : State) (d : DriveId) (f : Drive → Drive) : (s.mod d f).cfg = s.cfg := by
  cases d <;> rfl

@[simp] theorem setDrive_dualDrive (s : State) (d : DriveId) (x : Drive) : (s.setDrive d x).dualDrive = s.dualDrive := by
  cases d <;> rfl

@[simp] theorem mod_dualDrive (s : State) (d : DriveId) (f : Drive → Drive) : (s.mod d f).dualDrive = s.dualDrive := by
  cases d <;> rfl

@[simp] theorem setDrive_lock (s : State) (d : DriveId) (x : Drive) : (s.setDrive d x).lock = s.lock := by
  cases d <;> rfl

@[simp] theorem mod_lock (s : State) (d : DriveId) (f : Drive → Drive) : (s.mod d f).lock = s.lock := by
  cases d <;> rfl

@[simp] theorem setDrive_cur (s : State) (d : DriveId) (x : Drive) : (s.setDrive d x).cur = s.cur := by
  cases d <;> rfl

@[simp] theorem mod_cur (s : State) (d : DriveId) (f : Drive → Drive) : (s.mod d f).cur = s.cur := by
  cases d <;> rfl

@[simp] theorem setDrive_side (s : State) (d : DriveId) (x : Drive) : (s.setDrive d x).side = s.side := by
  cases d <;> rfl

@[simp] theorem mod_side (s : State) (d : DriveId) (f : Drive → Drive) : (s.mod d f).side = s.side := by
  cases d <;> rfl

@[simp] theorem setDrive_trace (s : State) (d : DriveId) (x : Drive) : (s.setDrive d x).trace = s.trace := by
  cases d <;> rfl

@[simp] theorem mod_trace (s : State) (d : DriveId) (f : Drive → Drive) : (s.mod d f).trace = s.trace := by
  cases d <;> rfl

@[simp] theorem setDrive_agenda (s : State) (d : DriveId) (x : Drive) : (s.setDrive d x).agenda = s.agenda := by
  cases d <;> rfl

@[simp] theorem setDrive_unbroken (s : State) (d : DriveId) (x : Drive) : (s.setDrive d x).unbroken = s.unbroken := by
  cases d <;> rfl

@[simp] theorem mod_agenda (s : State) (d : DriveId) (f : Drive → Drive) : (s.mod d f).agenda = s.agenda := by
  cases d <;> rfl

@[simp] theorem mod_unbroken (s : State) (d : DriveId) (f : Drive → Drive) : (s.mod d f).unbroken = s.unbroken := by
  cases d <;> rfl

@[simp] theorem setDrive_draws (s : State) (d : DriveId) (x : Drive) : (s.setDrive d x).draws = s.draws := by
  cases d <;> rfl

@[simp] theorem mod_draws (s : State) (d : DriveId) (f : Drive → Drive) : (s.mod d f).draws = s.draws := by
  cases d <;> rfl

/-! ## emit and emits -/

@[simp] theorem drive_emit (s : State) (e : Event) (d : DriveId) : (s.emit e).drive d = s.drive d := by
  cases d <;> rfl

@[simp] theorem drive_emits (s : State) (es : List Event) (d : DriveId) : (s.emits es).drive d = s.drive d := by
  cases d <;> rfl

@[simp] theorem trace_emit (s : State) (e : Event) : (s.emit e).trace = s.trace ++ [e] := rfl

@[simp] theorem trace_emits (s : State) (es : List Event) : (s.emits es).trace = s.trace ++ es := rfl

theorem emit_mod (s : State) (e : Event) (d : DriveId) (f : Drive → Drive) :
    (s.emit e).mod d f = (s.mod d f).emit e := by
  cases d <;> rfl

@[simp] theorem emit_cfg (s : State) (e : Event) : (s.emit e).cfg = s.cfg := rfl

@[simp] theorem emits_cfg (s : State) (es : List Event) : (s.emits es).cfg = s.cfg := rfl

@[simp] theorem emit_d0 (s : State) (e : Event) : (s.emit e).d0 = s.d0 := rfl

@[simp] theorem emits_d0 (s : State) (es : List Event) : (s.emits es).d0 = s.d0 := rfl

@[simp] theorem emit_d1 (s : State) (e : Event) : (s.emit e).d1 = s.d1 := rfl

@[simp] theorem emits_d1 (s : State) (es : List Event) : (s.emits es).d1 = s.d1 := rfl

@[simp] theorem emit_dualDrive (s : State) (e : Event) : (s.emit e).dualDrive = s.dualDrive := rfl

@[simp] theorem emits_dualDrive (s : State) (es : List Event) : (s.emits es).dualDrive = s.dualDrive := rfl

@[simp] theorem emit_lock (s : State) (e : Event) : (s.emit e).lock = s.lock := rfl

@[simp] theorem emits_lock (s : State) (es : List Event) : (s.emits es).lock = s.lock := rfl

@[simp] theorem emit_cur (s : State) (e : Event) : (s.emit e).cur = s.cur := rfl

@[simp] theorem emits_cur (s : State) (es : List Event) : (s.emits es).cur = s.cur := rfl

@[simp] theorem emit_side (s : State) (e : Event) : (s.emit e).side = s.side := rfl

@[simp] theorem emits_side (s : State) (es : List Event) : (s.emits es).side = s.side := rfl

@[simp] theorem emit_agenda (s : State) (e : Event) : (s.emit e).agenda = s.agenda := rfl

@[simp] theorem emit_unbroken (s : State) (e : Event) : (s.emit e).unbroken = s.unbroken := rfl

@[simp] theorem emits_agenda (s : State) (es : List Event) : (s.emits es).agenda = s.agenda := rfl

@[simp] theorem emits_unbroken (s : State) (es : List Event) : (s.emits es).unbroken = s.unbroken := rfl

@[simp] theorem emit_draws (s : State) (e : Event) : (s.emit e).draws = s.draws := rfl

@[simp] theorem emits_draws (s : State) (es : List Event) : (s.emits es).draws = s.draws := rfl

/-! ## Changes of a part of a record -/

@[simp] theorem modLines_lines (x : Drive) (f : Lines → Lines) : (x.modLines f).lines = f x.lines := rfl

@[simp] theorem modLines_outputLED (x : Drive) (f : Lines → Lines) : (x.modLines f).outputLED = x.outputLED := rfl

@[simp] theorem modLines_outputSound (x : Drive) (f : Lines → Lines) : (x.modLines f).outputSound = x.outputSound := rfl

@[simp] theorem modLines_chipKind (x : Drive) (f : Lines → Lines) : (x.modLines f).chipKind = x.chipKind := rfl

@[simp] theorem modLines_rawSample (x : Drive) (f : Lines → Lines) : (x.modLines f).rawSample = x.rawSample := rfl

@[simp] theorem modLines_samplePolled (x : Drive) (f : Lines → Lines) : (x.modLines f).samplePolled = x.samplePolled := rfl

@[simp] theorem modLines_notImplReported (x : Drive) (f : Lines → Lines) : (x.modLines f).notImplReported = x.notImplReported := rfl

@[simp] theorem modLines_out (x : Drive) (f : Lines → Lines) : (x.modLines f).out = x.out := rfl

@[simp] theorem modLines_mode (x : Drive) (f : Lines → Lines) : (x.modLines f).mode = x.mode := rfl

@[simp] theorem modLines_phase (x : Drive) (f : Lines → Lines) : (x.modLines f).phase = x.phase := rfl

@[simp] theorem modLines_tickStep (x : Drive) (f : Lines → Lines) : (x.modLines f).tickStep = x.tickStep := rfl

@[simp] theorem modLines_session (x : Drive) (f : Lines → Lines) : (x.modLines f).session = x.session := rfl

@[simp] theorem modLines_deviceID (x : Drive) (f : Lines → Lines) : (x.modLines f).deviceID = x.deviceID := rfl

@[simp] theorem modLines_latches (x : Drive) (f : Lines → Lines) : (x.modLines f).latches = x.latches := rfl

@[simp] theorem modLines_buttons (x : Drive) (f : Lines → Lines) : (x.modLines f).buttons = x.buttons := rfl

@[simp] theorem modLines_caddy (x : Drive) (f : Lines → Lines) : (x.modLines f).caddy = x.caddy := rfl

@[simp] theorem modLines_driveImage (x : Drive) (f : Lines → Lines) : (x.modLines f).driveImage = x.driveImage := rfl

@[simp] theorem modLines_todo (x : Drive) (f : Lines → Lines) : (x.modLines f).todo = x.todo := rfl

@[simp] theorem modLines_result (x : Drive) (f : Lines → Lines) : (x.modLines f).result = x.result := rfl

@[simp] theorem modLines_env (x : Drive) (f : Lines → Lines) : (x.modLines f).env = x.env := rfl

@[simp] theorem modSession_lines (x : Drive) (f : Session → Session) : (x.modSession f).lines = x.lines := rfl

@[simp] theorem modSession_outputLED (x : Drive) (f : Session → Session) : (x.modSession f).outputLED = x.outputLED := rfl

@[simp] theorem modSession_outputSound (x : Drive) (f : Session → Session) : (x.modSession f).outputSound = x.outputSound := rfl

@[simp] theorem modSession_chipKind (x : Drive) (f : Session → Session) : (x.modSession f).chipKind = x.chipKind := rfl

@[simp] theorem modSession_rawSample (x : Drive) (f : Session → Session) : (x.modSession f).rawSample = x.rawSample := rfl

@[simp] theorem modSession_samplePolled (x : Drive) (f : Session → Session) : (x.modSession f).samplePolled = x.samplePolled := rfl

@[simp] theorem modSession_notImplReported (x : Drive) (f : Session → Session) : (x.modSession f).notImplReported = x.notImplReported := rfl

@[simp] theorem modSession_out (x : Drive) (f : Session → Session) : (x.modSession f).out = x.out := rfl

@[simp] theorem modSession_mode (x : Drive) (f : Session → Session) : (x.modSession f).mode = x.mode := rfl

@[simp] theorem modSession_phase (x : Drive) (f : Session → Session) : (x.modSession f).phase = x.phase := rfl

@[simp] theorem modSession_tickStep (x : Drive) (f : Session → Session) : (x.modSession f).tickStep = x.tickStep := rfl

@[simp] theorem modSession_session (x : Drive) (f : Session → Session) : (x.modSession f).session = f x.session := rfl

@[simp] theorem modSession_deviceID (x : Drive) (f : Session → Session) : (x.modSession f).deviceID = x.deviceID := rfl

@[simp] theorem modSession_latches (x : Drive) (f : Session → Session) : (x.modSession f).latches = x.latches := rfl

@[simp] theorem modSession_buttons (x : Drive) (f : Session → Session) : (x.modSession f).buttons = x.buttons := rfl

@[simp] theorem modSession_caddy (x : Drive) (f : Session → Session) : (x.modSession f).caddy = x.caddy := rfl

@[simp] theorem modSession_driveImage (x : Drive) (f : Session → Session) : (x.modSession f).driveImage = x.driveImage := rfl

@[simp] theorem modSession_todo (x : Drive) (f : Session → Session) : (x.modSession f).todo = x.todo := rfl

@[simp] theorem modSession_result (x : Drive) (f : Session → Session) : (x.modSession f).result = x.result := rfl

@[simp] theorem modSession_env (x : Drive) (f : Session → Session) : (x.modSession f).env = x.env := rfl

@[simp] theorem modLatches_lines (x : Drive) (f : Latches → Latches) : (x.modLatches f).lines = x.lines := rfl

@[simp] theorem modLatches_outputLED (x : Drive) (f : Latches → Latches) : (x.modLatches f).outputLED = x.outputLED := rfl

@[simp] theorem modLatches_outputSound (x : Drive) (f : Latches → Latches) : (x.modLatches f).outputSound = x.outputSound := rfl

@[simp] theorem modLatches_chipKind (x : Drive) (f : Latches → Latches) : (x.modLatches f).chipKind = x.chipKind := rfl

@[simp] theorem modLatches_rawSample (x : Drive) (f : Latches → Latches) : (x.modLatches f).rawSample = x.rawSample := rfl

@[simp] theorem modLatches_samplePolled (x : Drive) (f : Latches → Latches) : (x.modLatches f).samplePolled = x.samplePolled := rfl

@[simp] theorem modLatches_notImplReported (x : Drive) (f : Latches → Latches) : (x.modLatches f).notImplReported = x.notImplReported := rfl

@[simp] theorem modLatches_out (x : Drive) (f : Latches → Latches) : (x.modLatches f).out = x.out := rfl

@[simp] theorem modLatches_mode (x : Drive) (f : Latches → Latches) : (x.modLatches f).mode = x.mode := rfl

@[simp] theorem modLatches_phase (x : Drive) (f : Latches → Latches) : (x.modLatches f).phase = x.phase := rfl

@[simp] theorem modLatches_tickStep (x : Drive) (f : Latches → Latches) : (x.modLatches f).tickStep = x.tickStep := rfl

@[simp] theorem modLatches_session (x : Drive) (f : Latches → Latches) : (x.modLatches f).session = x.session := rfl

@[simp] theorem modLatches_deviceID (x : Drive) (f : Latches → Latches) : (x.modLatches f).deviceID = x.deviceID := rfl

@[simp] theorem modLatches_latches (x : Drive) (f : Latches → Latches) : (x.modLatches f).latches = f x.latches := rfl

@[simp] theorem modLatches_buttons (x : Drive) (f : Latches → Latches) : (x.modLatches f).buttons = x.buttons := rfl

@[simp] theorem modLatches_caddy (x : Drive) (f : Latches → Latches) : (x.modLatches f).caddy = x.caddy := rfl

@[simp] theorem modLatches_driveImage (x : Drive) (f : Latches → Latches) : (x.modLatches f).driveImage = x.driveImage := rfl

@[simp] theorem modLatches_todo (x : Drive) (f : Latches → Latches) : (x.modLatches f).todo = x.todo := rfl

@[simp] theorem modLatches_result (x : Drive) (f : Latches → Latches) : (x.modLatches f).result = x.result := rfl

@[simp] theorem modLatches_env (x : Drive) (f : Latches → Latches) : (x.modLatches f).env = x.env := rfl

/-! ## The counter of free values -/

@[simp] theorem drive_draws (s : State) (n : Nat) (d : DriveId) : ({ s with draws := n } : State).drive d = s.drive d := by
  cases d <;> rfl

/-! ## Focus -/

@[simp] theorem drive_focus (s : State) (d e : DriveId) (side : SideData) (n : Nat) :
    (s.focus d side n).drive e = s.drive e := by
  cases e <;> rfl

@[simp] theorem focus_cur (s : State) (d : DriveId) (side : SideData) (n : Nat) : (s.focus d side n).cur = d := rfl

@[simp] theorem focus_side (s : State) (d : DriveId) (side : SideData) (n : Nat) : (s.focus d side n).side = side := rfl

@[simp] theorem focus_unbroken (s : State) (d : DriveId) (side : SideData) (n : Nat) :
    (s.focus d side n).unbroken = n := rfl

@[simp] theorem drive_unbroken (s : State) (n : Nat) (d : DriveId) :
    ({ s with unbroken := n } : State).drive d = s.drive d := by
  cases d <;> rfl

@[simp] theorem drive_agenda (s : State) (ms : List Move) (d : DriveId) :
    ({ s with agenda := ms } : State).drive d = s.drive d := by
  cases d <;> rfl

@[simp] theorem drive_lock (s : State) (l : Lock) (d : DriveId) : ({ s with lock := l } : State).drive d = s.drive d := by
  cases d <;> rfl

@[simp] theorem drive_dualDrive (s : State) (n : Int) (d : DriveId) :
    ({ s with dualDrive := n } : State).drive d = s.drive d := by
  cases d <;> rfl

/-! ## Presence and eligibility -/

@[simp] theorem present_mod (s : State) (d e : DriveId) (f : Drive → Drive) : (s.mod d f).present e = s.present e := by
  cases e <;> simp [State.present]

@[simp] theorem present_emit (s : State) (e : Event) (d : DriveId) : (s.emit e).present d = s.present d := by
  cases d <;> rfl

@[simp] theorem readEligible_emit (s : State) (e : Event) (d : DriveId) :
    (s.emit e).readEligible d = s.readEligible d := by
  cases d <;> rfl

end Sys2Proof.Machine
end

