-- ==== Sys2Proof/Laws/Ops.lean ====
section
/-! SUPPORT. For each shared operation, one lemma that says everything it can do: what it leaves outside its instance,
what it adds to the trace, and what becomes of the record. -/

namespace Sys2Proof.Machine

/-! ## Accepting an operation -/

/-- Everything `accept` can do when it goes on. -/
theorem accept_next {s t : State} {pre : Drive → Bool} {op : DriveId → State → State} :
    accept s pre op = .next t ↔ s.ready ∧ pre s.self = true ∧ t = op s.cur s := by
  unfold accept State.ready State.self
  split <;> rename_i hp
  · split <;> rename_i hm
    · simp [hm]
    · split <;> rename_i ht
      · split <;> rename_i hq <;> simp [hp, hm, ht, hq, eq_comm]
      · simp [ht]
  · simp [hp]

/-- A ready instance whose record meets the precondition goes on. -/
theorem accept_ready {s : State} {pre : Drive → Bool} {op : DriveId → State → State} (h : s.ready)
    (hq : pre s.self = true) : accept s pre op = .next (op s.cur s) :=
  accept_next.2 ⟨h, hq, rfl⟩

/-- `accept` never faults (R194). -/
theorem accept_ne_fault {s : State} {pre : Drive → Bool} {op : DriveId → State → State} {r : Fault} :
    accept s pre op ≠ .fault r := by
  unfold accept
  split
  · split
    · simp
    · split
      · split <;> simp
      · simp
  · simp

/-- In the terminal mode `accept` refuses (R191, U12). -/
theorem accept_shutDown {s : State} {pre : Drive → Bool} {op : DriveId → State → State}
    (hp : s.present s.cur = true) (hm : s.self.mode = .emulationShutdown) : accept s pre op = .refused .shutDown := by
  unfold accept
  rw [if_pos hp, if_pos hm]

/-! ## What stays outside an instance -/

theorem SameOutside.refl (d : DriveId) (s : State) : SameOutside d s s :=
  ⟨rfl, rfl, rfl, rfl, rfl, rfl, rfl, rfl⟩

theorem SameOutside.trans {d : DriveId} {s t u : State} (h : SameOutside d s t) (k : SameOutside d t u) :
    SameOutside d s u :=
  ⟨k.cfg.trans h.cfg, k.other.trans h.other, k.dualDrive.trans h.dualDrive, k.lock.trans h.lock, k.cur.trans h.cur,
    k.side.trans h.side, k.agenda.trans h.agenda, k.unbroken.trans h.unbroken⟩

theorem mod_outside (s : State) (d : DriveId) (f : Drive → Drive) : SameOutside d s (s.mod d f) := by
  constructor <;> simp

theorem emit_outside (s : State) (d : DriveId) (e : Event) : SameOutside d s (s.emit e) := by
  constructor <;> simp

theorem emits_outside (s : State) (d : DriveId) (es : List Event) : SameOutside d s (s.emits es) := by
  constructor <;> simp

/-! ## Ports -/

theorem spend_outside (s : State) (d : DriveId) (p : Port) : SameOutside d s (s.spend d p) := by
  unfold State.spend
  split
  · exact mod_outside _ _ _
  · constructor <;> simp

@[simp] theorem spend_trace (s : State) (d : DriveId) (p : Port) : (s.spend d p).trace = s.trace := by
  unfold State.spend
  split <;> simp

@[simp] theorem spend_cfg (s : State) (d : DriveId) (p : Port) : (s.spend d p).cfg = s.cfg :=
  (spend_outside s d p).cfg

@[simp] theorem spend_unbroken (s : State) (d : DriveId) (p : Port) : (s.spend d p).unbroken = s.unbroken :=
  (spend_outside s d p).unbroken

@[simp] theorem spend_cur (s : State) (d : DriveId) (p : Port) : (s.spend d p).cur = s.cur :=
  (spend_outside s d p).cur

@[simp] theorem spend_lock (s : State) (d : DriveId) (p : Port) : (s.spend d p).lock = s.lock :=
  (spend_outside s d p).lock

@[simp] theorem spend_dualDrive (s : State) (d : DriveId) (p : Port) : (s.spend d p).dualDrive = s.dualDrive :=
  (spend_outside s d p).dualDrive

/-- The answers left after one is used up. -/
def envAfter (s : State) (d : DriveId) (p : Port) : Env :=
  if (s.drive d).env.supplied p then (s.drive d).env.pop p else (s.drive d).env

/-- Using up an answer changes nothing of the record but the answers left. -/
theorem drive_spend (s : State) (d : DriveId) (p : Port) :
    (s.spend d p).drive d = { s.drive d with env := envAfter s d p } := by
  unfold State.spend envAfter
  split <;> simp

theorem spend_drive_env (s : State) (d : DriveId) (p : Port) : ((s.spend d p).drive d).env = envAfter s d p := by
  rw [drive_spend]

@[simp] theorem spend_lines (s : State) (d : DriveId) (p : Port) :
    ((s.spend d p).drive d).lines = (s.drive d).lines := by
  rw [drive_spend]

@[simp] theorem spend_session (s : State) (d : DriveId) (p : Port) :
    ((s.spend d p).drive d).session = (s.drive d).session := by
  rw [drive_spend]

/-! ## Primitives of the bus unit -/

theorem notImpl_outside (d : DriveId) (s : State) : SameOutside d s (notImpl d s) := by
  unfold notImpl
  split
  · exact .refl _ _
  · exact (mod_outside _ _ _).trans (emit_outside _ _ _)

/-- `NotImpl` writes `NotImplReported` and nothing else (R117). -/
theorem notImpl_drive (d : DriveId) (s : State) :
    (notImpl d s).drive d = { s.drive d with notImplReported := true } := by
  unfold notImpl
  split <;> rename_i h
  · rw [← h]
  · simp

theorem notImpl_trace (d : DriveId) (s : State) :
    (notImpl d s).trace = s.trace ++ if (s.drive d).notImplReported then [] else [.log d .notImplemented] := by
  unfold notImpl
  split <;> simp

theorem gpioRead_outside (d : DriveId) (s : State) : SameOutside d s (gpioRead d s) :=
  ((spend_outside _ _ _).trans (mod_outside _ _ _)).trans (emit_outside _ _ _)

/-- A read stores the word it returns, which no poll has used yet, and nothing else of the record changes (R111,
R114, R151). -/
theorem gpioRead_drive (d : DriveId) (s : State) :
    (gpioRead d s).drive d =
      { s.drive d with rawSample := s.gpioAnswer d, samplePolled := false, env := envAfter s d .gpio } := by
  simp [gpioRead, drive_spend]

theorem gpioRead_trace (d : DriveId) (s : State) :
    (gpioRead d s).trace = s.trace ++ [.gpioRead d (s.gpioAnswer d)] := by
  simp [gpioRead]

theorem gpioDrive_outside (d : DriveId) (v : DriveVector) (s : State) : SameOutside d s (gpioDrive d v s) :=
  (mod_outside _ _ _).trans (emit_outside _ _ _)

/-- A drive stores the vector in `S.Out`, and nothing else of the record changes (R133). -/
theorem gpioDrive_drive (d : DriveId) (v : DriveVector) (s : State) :
    (gpioDrive d v s).drive d = { s.drive d with out := v } := by
  simp [gpioDrive]

theorem gpioDrive_trace (d : DriveId) (v : DriveVector) (s : State) :
    (gpioDrive d v s).trace = s.trace ++ [.gpioDrive d v] := by
  simp [gpioDrive]

/-! ## Leaving a session -/

theorem raiseExit_outside (d : DriveId) (r : ExitType) (s : State) : SameOutside d s (raiseExit d r s) :=
  (mod_outside _ _ _).trans (emit_outside _ _ _)

/-- An exit saves the reason and makes the phase idle, and nothing else of the record changes (R250). -/
theorem raiseExit_drive (d : DriveId) (r : ExitType) (s : State) :
    (raiseExit d r s).drive d =
      { s.drive d with session := { (s.drive d).session with exitReason := r }, phase := .idle } := by
  simp [raiseExit, Drive.modSession]

theorem raiseExit_trace (d : DriveId) (r : ExitType) (s : State) :
    (raiseExit d r s).trace = s.trace ++ [.exit d r] := by
  simp [raiseExit]

theorem setResult_outside (d : DriveId) (r : OpResult) (s : State) : SameOutside d s (setResult d r s) :=
  mod_outside _ _ _

end Sys2Proof.Machine
end

