-- ==== Sys2Proof/Laws/Bus.lean ====
section
/-! SUPPORT. The bus unit and the debouncer: what each operation leaves outside its instance, and what becomes of the
record. -/

namespace Sys2Proof.Machine

/-! ## Debouncer -/

theorem pollButtons_outside (d : DriveId) (s : State) : SameOutside d s (pollButtons d s) :=
  mod_outside _ _ _

/-- A poll is due exactly for an eligible instance whose sample is not polled yet (R151, D31). -/
theorem mayPoll_iff (d : DriveId) (s : State) (x : Drive) :
    mayPoll d s x = true ↔ s.readEligible d = true ∧ x.samplePolled = false := by
  simp [mayPoll]

/-- A poll writes the debouncer file, marks the sample as polled and writes nothing else (R151). -/
theorem pollButtons_drive (d : DriveId) (s : State) :
    (pollButtons d s).drive d =
      { s.drive d with
        buttons := pollFile s.cfg (s.drive d).rawSample s.cfg.pinButtons (s.drive d).buttons
        samplePolled := true } := by
  simp [pollButtons]

@[simp] theorem pollButtons_trace (d : DriveId) (s : State) : (pollButtons d s).trace = s.trace := by
  simp [pollButtons]

/-- A poll keeps the number of buttons. -/
theorem pollFile_length (c : Config) (raw : RawWord) (masks : List RawWord) (bs : List Button) :
    (pollFile c raw masks bs).length = bs.length := by
  induction masks generalizing bs with
  | nil => simp [pollFile]
  | cons m ms ih => cases bs <;> simp [pollFile, ih]

/-- A poll of a file with one entry for each mask, index by index (R151: no rule couples two buttons). -/
theorem pollFile_getElem? (c : Config) (raw : RawWord) (masks : List RawWord) (bs : List Button) (i : Nat) :
    (pollFile c raw masks bs)[i]? =
      match masks[i]?, bs[i]? with
      | some m, some b => some (pollButton c (buttonAsserted raw m) b)
      | _, r => r := by
  induction masks generalizing bs i with
  | nil => simp [pollFile]
  | cons m ms ih =>
    cases bs with
    | nil => simp [pollFile]
    | cons b bs => cases i <;> simp [pollFile, ih]

/-! ## Sensing -/

theorem sampleIfEligible_outside (d : DriveId) (s : State) : SameOutside d s (sampleIfEligible d s) := by
  unfold sampleIfEligible
  split
  · exact gpioRead_outside _ _
  · exact .refl _ _

/-- The sample and the answers left after the eligibility gate (R113); nothing else of the record changes. -/
theorem sampleIfEligible_drive (d : DriveId) (s : State) :
    (sampleIfEligible d s).drive d =
      { s.drive d with
        rawSample := if s.readEligible d then s.gpioAnswer d else (s.drive d).rawSample
        samplePolled := !s.readEligible d && (s.drive d).samplePolled
        env := if s.readEligible d then envAfter s d .gpio else (s.drive d).env } := by
  cases h : s.readEligible d <;> simp [sampleIfEligible, h, gpioRead_drive]

theorem sampleIfEligible_trace (d : DriveId) (s : State) :
    (sampleIfEligible d s).trace = s.trace ++ if s.readEligible d then [.gpioRead d (s.gpioAnswer d)] else [] := by
  unfold sampleIfEligible
  split <;> simp [gpioRead_trace]

theorem readBrowse_outside (d : DriveId) (s : State) : SameOutside d s (readBrowse d s) := by
  unfold readBrowse
  split
  · exact notImpl_outside _ _
  · split
    · exact ((gpioRead_outside _ _).trans (mod_outside _ _ _)).trans (pollButtons_outside _ _)
    · exact .refl _ _

theorem readEmu1541_outside (d : DriveId) (s : State) : SameOutside d s (readEmu1541 d s) := by
  unfold readEmu1541
  split
  · exact notImpl_outside _ _
  · exact ((sampleIfEligible_outside _ _).trans (mod_outside _ _ _)).trans (emits_outside _ _ _)

theorem readEmu1581_outside (d : DriveId) (s : State) : SameOutside d s (readEmu1581 d s) := by
  unfold readEmu1581
  split
  · exact notImpl_outside _ _
  · exact ((sampleIfEligible_outside _ _).trans (mod_outside _ _ _)).trans (emits_outside _ _ _)

/-- The held sample after the eligibility gate (R113). -/
def sampleAfter (s : State) (d : DriveId) : RawWord :=
  if s.readEligible d then s.gpioAnswer d else (s.drive d).rawSample

/-- The held sample counts as polled only if it was and no read replaced it (R113, R151). -/
def polledAfter (s : State) (d : DriveId) : Bool :=
  !s.readEligible d && (s.drive d).samplePolled

/-- What `READ_EMU_1541` makes of the record (R114). -/
theorem readEmu1541_drive (d : DriveId) (s : State) (h : splitUnsupported s.cfg = false) :
    (readEmu1541 d s).drive d =
      { s.drive d with
        lines := emuLines s.cfg (s.drive d).chipKind (sampleAfter s d) (s.drive d).lines
        rawSample := sampleAfter s d
        samplePolled := polledAfter s d
        env := if s.readEligible d then envAfter s d .gpio else (s.drive d).env } := by
  simp [readEmu1541, h, Drive.modLines, sampleIfEligible_drive, sampleAfter, polledAfter]

/-- What `READ_EMU_1581` makes of the record (R115). -/
theorem readEmu1581_drive (d : DriveId) (s : State) (h : splitUnsupported s.cfg = false) :
    (readEmu1581 d s).drive d =
      { s.drive d with
        lines := emuLines1581 s.cfg (s.drive d).chipKind (sampleAfter s d) (s.drive d).lines
        rawSample := sampleAfter s d
        samplePolled := polledAfter s d
        env := if s.readEligible d then envAfter s d .gpio else (s.drive d).env } := by
  simp [readEmu1581, h, Drive.modLines, sampleIfEligible_drive, sampleAfter, polledAfter]

/-! ## Driving -/

theorem portBOut_outside (status : Byte) (d : DriveId) (s : State) : SameOutside d s (portBOut status d s) :=
  ((spend_outside _ _ _).trans (mod_outside _ _ _)).trans (emits_outside _ _ _)

/-- What `PORTB_OUT` makes of the record (R131). -/
theorem portBOut_drive (status : Byte) (d : DriveId) (s : State) :
    (portBOut status d s).drive d =
      { s.drive d with
        lines := portBLines s.cfg (s.drive d).chipKind status (s.directionAnswer d) (s.drive d).lines
        env := envAfter s d .direction } := by
  simp [portBOut, Drive.modLines, drive_spend]

theorem setSrqOut_outside (b : Bool) (d : DriveId) (s : State) : SameOutside d s (setSrqOut b d s) :=
  mod_outside _ _ _

/-- What `SET_SRQ_OUT` makes of the record (R136). -/
theorem setSrqOut_drive (b : Bool) (d : DriveId) (s : State) :
    (setSrqOut b d s).drive d =
      { s.drive d with
        lines := { (s.drive d).lines with srqSetToOut := b, piSRQ := loopback b (s.drive d).lines.piSRQ } } := by
  simp [setSrqOut, Drive.modLines]

theorem refresh_outside (d : DriveId) (s : State) : SameOutside d s (refresh d s) := by
  unfold refresh
  split
  · exact notImpl_outside _ _
  · exact gpioDrive_outside _ _ _

/-- What a refresh makes of the record: `Out`, or the report of the unsupported configuration (R134, R116). -/
theorem refresh_drive (d : DriveId) (s : State) :
    (refresh d s).drive d =
      if splitUnsupported s.cfg then { s.drive d with notImplReported := true }
      else { s.drive d with out := outVector (s.drive d) } := by
  unfold refresh
  split <;> simp [notImpl_drive, gpioDrive_drive]

theorem busReset_outside (d : DriveId) (s : State) : SameOutside d s (busReset d s) := by
  unfold busReset
  dsimp only
  split
  · exact (mod_outside _ _ _).trans (refresh_outside _ _)
  · exact mod_outside _ _ _

/-- The gate is released after a reset under either chip kind (R138). -/
@[simp] theorem resetLines_released (k : ChipKind) : resetLines k = Lines.released := by
  cases k <;> rfl

/-- `BUS_RESET` keeps everything of the record but the lines, `Out` and the report of R116 (R137). -/
theorem busReset_drive (d : DriveId) (s : State) :
    ∃ out rep, (busReset d s).drive d =
      { s.drive d with lines := Lines.released, out := out, notImplReported := rep } := by
  unfold busReset
  dsimp only
  split
  · rw [refresh_drive]
    split
    · exact ⟨(s.drive d).out, true, by simp⟩
    · exact ⟨_, (s.drive d).notImplReported, by simp; rfl⟩
  · exact ⟨(s.drive d).out, (s.drive d).notImplReported, by simp⟩

/-! ## The CPU step -/

theorem chipCall_outside (d : DriveId) (s : State) (call : ChipCall) : SameOutside d s (chipCall d s call) := by
  cases call with
  | portBOut status => exact portBOut_outside _ _ _
  | setSrqOut b => exact setSrqOut_outside _ _ _

/-- A chip call writes the line flags and uses up answers; nothing else of the record changes (R131, R136). -/
theorem chipCall_drive (d : DriveId) (s : State) (call : ChipCall) :
    ∃ l e, (chipCall d s call).drive d = { s.drive d with lines := l, env := e } := by
  cases call with
  | portBOut status => exact ⟨_, _, portBOut_drive _ _ _⟩
  | setSrqOut b => exact ⟨_, (s.drive d).env, setSrqOut_drive _ _ _⟩

theorem chipCalls_outside (d : DriveId) (s : State) (calls : List ChipCall) :
    SameOutside d s (calls.foldl (chipCall d) s) := by
  induction calls generalizing s with
  | nil => exact .refl _ _
  | cons c cs ih => exact (chipCall_outside d s c).trans (ih _)

theorem chipCalls_drive (d : DriveId) (s : State) (calls : List ChipCall) :
    ∃ l e, (calls.foldl (chipCall d) s).drive d = { s.drive d with lines := l, env := e } := by
  induction calls generalizing s with
  | nil => exact ⟨(s.drive d).lines, (s.drive d).env, rfl⟩
  | cons c cs ih =>
    obtain ⟨l, e, h⟩ := chipCall_drive d s c
    obtain ⟨l', e', h'⟩ := ih (chipCall d s c)
    exact ⟨l', e', by rw [List.foldl_cons, h', h]⟩

theorem cpuStep_outside (d : DriveId) (s : State) : SameOutside d s (cpuStep d s) :=
  ((spend_outside _ _ _).trans (chipCalls_outside _ _ _)).trans (emit_outside _ _ _)

/-- A CPU step writes the line flags and uses up answers; nothing else of the record changes (R176). -/
theorem cpuStep_drive (d : DriveId) (s : State) :
    ∃ l e, (cpuStep d s).drive d = { s.drive d with lines := l, env := e } := by
  obtain ⟨l, e, h⟩ := chipCalls_drive d (s.spend d .calls) (s.callsAnswer d)
  exact ⟨l, e, by simp [cpuStep, h, drive_spend]⟩

end Sys2Proof.Machine
end

