-- ==== Sys2Proof/Laws/Loop.lean ====
section
/-! SUPPORT. The caddy, the sequencer, the tick and the arbiter: what each operation leaves outside its instance, and
what becomes of the record. -/

namespace Sys2Proof.Machine

/-! ## Caddy -/

theorem setCaddy_outside (d : DriveId) (y : Caddy) (s : State) : SameOutside d s (setCaddy d y s) :=
  mod_outside _ _ _

@[simp] theorem setCaddy_drive (d : DriveId) (y : Caddy) (s : State) :
    (setCaddy d y s).drive d = { s.drive d with caddy := y } := by
  simp [setCaddy]

@[simp] theorem setResult_drive (d : DriveId) (r : OpResult) (s : State) :
    (setResult d r s).drive d = { s.drive d with result := r } := by
  simp [setResult]

/-- An insert appends the opened image or changes nothing of the caddy (R226). -/
theorem caddyInsert_cases (file : FileInfo) (ro : Bool) (d : DriveId) (s : State) :
    (∃ img e, caddyInsert file ro d s = (true, (caddyInsert file ro d s).2) ∧
        (s.drive d).caddy.images.length ≠ s.cfg.maxImages ∧ s.openAnswer d file ro = some img ∧
        (caddyInsert file ro d s).2.drive d =
          { s.drive d with
            caddy := { (s.drive d).caddy with images := (s.drive d).caddy.images ++ [img] }, env := e }) ∨
      ∃ e, caddyInsert file ro d s = (false, (caddyInsert file ro d s).2) ∧
        (caddyInsert file ro d s).2.drive d = { s.drive d with env := e } := by
  unfold caddyInsert
  split <;> rename_i hl
  · exact .inr ⟨(s.drive d).env, rfl, rfl⟩
  · split <;> rename_i ho
    · exact .inr ⟨_, rfl, drive_spend _ _ _⟩
    · exact .inl ⟨_, envAfter s d .opened, rfl, hl, ho, by simp [drive_spend]⟩

theorem caddyInsert_outside (file : FileInfo) (ro : Bool) (d : DriveId) (s : State) :
    SameOutside d s (caddyInsert file ro d s).2 := by
  unfold caddyInsert
  split
  · exact .refl _ _
  · split
    · exact spend_outside _ _ _
    · dsimp only
      exact (spend_outside _ _ _).trans (mod_outside _ _ _)

/-! ## Sequencer -/

theorem beginEmulating_outside (d : DriveId) (s : State) : SameOutside d s (beginEmulating d s) := by
  unfold beginEmulating
  split
  · exact .refl _ _
  · exact (mod_outside _ _ _).trans (emit_outside _ _ _)

/-- Beginning either changes nothing, for want of an image, or inserts the current one (R166). -/
theorem beginEmulating_cases (d : DriveId) (s : State) :
    ((s.drive d).caddy.images[(s.drive d).caddy.current]? = none ∧ beginEmulating d s = s) ∨
      ∃ img, (s.drive d).caddy.images[(s.drive d).caddy.current]? = some img ∧
        (beginEmulating d s).drive d =
          { s.drive d with
            session := applyQuirk s.cfg img
              { (s.drive d).session with refreshAfter := s.cfg.refreshOutsAfterCPUStep }
            driveImage := some img
            chipKind := kindOfImage img
            mode := modeOfKind (kindOfImage img) } := by
  unfold beginEmulating
  split <;> rename_i h
  · exact .inl ⟨h, rfl⟩
  · exact .inr ⟨_, h, by simp [Drive.modSession]⟩

theorem fastbootStep_outside (d : DriveId) (s : State) : SameOutside d s (fastbootStep d s) :=
  (cpuStep_outside _ _).trans (mod_outside _ _ _)

theorem imageSelected_outside (d : DriveId) (s : State) : SameOutside d s (imageSelected d s) := by
  unfold imageSelected
  dsimp only
  have h := (mod_outside s d fun x => x.modLatches fun l => { l with reqMount := none }).trans
    (caddyInsert_outside s.side.file s.side.readOnly d _)
  split
  · split
    · exact (h.trans (setCaddy_outside _ _ _)).trans (beginEmulating_outside _ _)
    · exact h.trans (beginEmulating_outside _ _)
  · exact h.trans (emit_outside _ _ _)

theorem stateChange_outside (d : DriveId) (s : State) : SameOutside d s (stateChange d s) := by
  unfold stateChange
  split
  · exact .refl _ _
  · exact mod_outside _ _ _

theorem fastpathEvent_outside (o : FastPathOutcome) (d : DriveId) (s : State) :
    SameOutside d s (fastpathEvent o d s) := by
  cases o with
  | imageSelected => exact imageSelected_outside _ _
  | stateChange => exact stateChange_outside _ _
  | fpReset => exact busReset_outside _ _

theorem shutdown_outside (d : DriveId) (s : State) : SameOutside d s (shutdown d s) :=
  (mod_outside _ _ _).trans (emit_outside _ _ _)

/-! ## The tick -/

theorem setStep_outside (d : DriveId) (t : TickStep) (s : State) : SameOutside d s (setStep d t s) :=
  mod_outside _ _ _

@[simp] theorem setStep_drive (d : DriveId) (t : TickStep) (s : State) :
    (setStep d t s).drive d = { s.drive d with tickStep := t } := by
  simp [setStep]

@[simp] theorem setStep_cfg (d : DriveId) (t : TickStep) (s : State) : (setStep d t s).cfg = s.cfg := by
  simp [setStep]

@[simp] theorem setStep_trace (d : DriveId) (t : TickStep) (s : State) : (setStep d t s).trace = s.trace := by
  simp [setStep]

theorem readEmu_outside (d : DriveId) (s : State) : SameOutside d s (readEmu d s) := by
  unfold readEmu
  split
  · exact readEmu1541_outside _ _
  · exact readEmu1581_outside _ _
  · exact .refl _ _
  · exact .refl _ _

/-- A sense of either form writes line flags, the sample, the report of R116 and answers, and keeps the gate: the new
`AtnaDataSetToOut` is the gate of the new `PI_Atn`, unless nothing at all was sensed (R114 to R116). -/
theorem readEmu_drive (d : DriveId) (s : State) :
    ∃ l w p rep e,
      (readEmu d s).drive d =
        { s.drive d with lines := l, rawSample := w, samplePolled := p, notImplReported := rep, env := e } ∧
      (l = (s.drive d).lines ∨ l.atnaDataSetToOut = gate (s.drive d).chipKind l.viaAtna l.piAtn) := by
  have same : ∀ x : Drive, x = { x with
      lines := x.lines, rawSample := x.rawSample, samplePolled := x.samplePolled, notImplReported := x.notImplReported, env := x.env } := fun _ => rfl
  cases hs : splitUnsupported s.cfg
  · unfold readEmu
    split
    · exact ⟨_, _, _, _, _, readEmu1541_drive d s hs, .inr rfl⟩
    · exact ⟨_, _, _, _, _, readEmu1581_drive d s hs, .inr rfl⟩
    · exact ⟨_, _, _, _, _, same _, .inl rfl⟩
    · exact ⟨_, _, _, _, _, same _, .inl rfl⟩
  · unfold readEmu readEmu1541 readEmu1581
    simp only [hs, ↓reduceIte]
    split
    · exact ⟨_, _, (s.drive d).samplePolled, _, _, notImpl_drive d s, .inl rfl⟩
    · exact ⟨_, _, (s.drive d).samplePolled, _, _, notImpl_drive d s, .inl rfl⟩
    · exact ⟨_, _, _, _, _, same _, .inl rfl⟩
    · exact ⟨_, _, _, _, _, same _, .inl rfl⟩

/-- A refresh writes `Out` and the report of R116 (R134). -/
theorem refresh_drive_exists (d : DriveId) (s : State) :
    ∃ out rep, (refresh d s).drive d = { s.drive d with out := out, notImplReported := rep } := by
  rw [refresh_drive]
  split
  · exact ⟨(s.drive d).out, true, rfl⟩
  · exact ⟨_, (s.drive d).notImplReported, rfl⟩

theorem tickA_outside (d : DriveId) (s : State) : SameOutside d s (tickA d s) :=
  ((spend_outside _ _ _).trans (mod_outside _ _ _)).trans (setStep_outside _ _ _)

theorem tickB_outside (d : DriveId) (s : State) : SameOutside d s (tickB d s) := by
  unfold tickB
  split
  · exact (readEmu_outside _ _).trans (setStep_outside _ _ _)
  · exact setStep_outside _ _ _

theorem tickC_outside (d : DriveId) (s : State) : SameOutside d s (tickC d s) := by
  unfold tickC
  dsimp only
  split
  · exact ((spend_outside _ _ _).trans (mod_outside _ _ _)).trans (setStep_outside _ _ _)
  · exact (spend_outside _ _ _).trans (setStep_outside _ _ _)

theorem tickD_outside (d : DriveId) (s : State) : SameOutside d s (tickD d s) :=
  (cpuStep_outside _ _).trans (setStep_outside _ _ _)

theorem tickE_outside (d : DriveId) (s : State) : SameOutside d s (tickE d s) := by
  unfold tickE
  split
  · exact (refresh_outside _ _).trans (setStep_outside _ _ _)
  · exact setStep_outside _ _ _

theorem tickF_outside (d : DriveId) (s : State) : SameOutside d s (tickF d s) := by
  unfold tickF
  dsimp only
  have h := (spend_outside s d .led).trans (mod_outside _ d fun x =>
    { x.modSession (fun z => { z with ledPrev := s.ledAnswer d }) with outputLED := s.ledAnswer d })
  split
  · exact (h.trans (emit_outside _ _ _)).trans (setStep_outside _ _ _)
  · exact h.trans (setStep_outside _ _ _)

theorem tickG_outside (d : DriveId) (s : State) : SameOutside d s (tickG d s) := by
  unfold tickG
  dsimp only
  refine .trans (.trans ?_ (mod_outside _ _ _)) (setStep_outside _ _ _)
  split
  · split
    · exact ((spend_outside _ _ _).trans (mod_outside _ _ _)).trans (emit_outside _ _ _)
    · exact (spend_outside _ _ _).trans (mod_outside _ _ _)
  · exact spend_outside _ _ _

theorem tickH_outside (d : DriveId) (s : State) : SameOutside d s (tickH d s) := by
  unfold tickH
  dsimp only
  refine .trans (.trans ?_ (mod_outside _ _ _)) (setStep_outside _ _ _)
  split
  · exact pollButtons_outside _ _
  · exact .refl _ _

theorem tickI_outside (d : DriveId) (s : State) : SameOutside d s (tickI d s) := by
  unfold tickI
  dsimp only
  refine (mod_outside s d fun x => x.modSession (countTick x.lines.resetting)).trans ?_
  split
  · exact setStep_outside _ _ _
  · exact raiseExit_outside _ _ _

theorem tickJ_outside (d : DriveId) (s : State) : SameOutside d s (tickJ d s) := by
  unfold tickJ
  dsimp only
  refine .trans ?_ (setStep_outside _ _ _)
  have h : ∀ b : Prop, [Decidable b] →
      SameOutside d s (if b then (s.spend d .now).emit (.log d .lostCycle) else s.spend d .now) := by
    intro b _
    split
    · exact (spend_outside _ _ _).trans (emit_outside _ _ _)
    · exact spend_outside _ _ _
  split
  · exact (h _).trans (mod_outside _ _ _)
  · exact h _

theorem tickJX_outside (d : DriveId) (s : State) : SameOutside d s (tickJX d s) := by
  unfold tickJX
  split
  · exact setStep_outside _ _ _
  · exact ((refresh_outside _ _).trans (readEmu_outside _ _)).trans (setStep_outside _ _ _)

theorem tickK_outside (d : DriveId) (s : State) : SameOutside d s (tickK d s) :=
  mod_outside _ _ _

theorem subStep_outside (t : TickStep) (d : DriveId) (s : State) : SameOutside d s (subStep t d s) := by
  cases t with
  | a => exact tickA_outside _ _
  | b => exact tickB_outside _ _
  | c => exact tickC_outside _ _
  | d => exact tickD_outside _ _
  | e => exact tickE_outside _ _
  | f => exact tickF_outside _ _
  | g => exact tickG_outside _ _
  | h => exact tickH_outside _ _
  | i => exact tickI_outside _ _
  | j => exact tickJ_outside _ _
  | jx => exact tickJX_outside _ _
  | k => exact tickK_outside _ _

theorem runTick_outside (d : DriveId) (n : Nat) (ts : List TickStep) (s : State) :
    SameOutside d s (runTick d n ts s) := by
  induction n generalizing ts s with
  | zero => exact .refl _ _
  | succ n ih =>
    cases ts with
    | nil => exact .refl _ _
    | cons t ts =>
      dsimp only [runTick]
      split
      · exact subStep_outside _ _ _
      · exact (subStep_outside _ _ _).trans (ih _ _)

theorem tick_outside (d : DriveId) (s : State) : SameOutside d s (tick d s) :=
  runTick_outside _ _ _ _

/-- The swap of step k keeps the images, and replaces the drive model's image only by one of them (R185, R233). -/
theorem serviceSwap_cases (c : Config) (x : Drive) :
    ∃ cur img z, serviceSwap c x =
        { x with caddy := { x.caddy with current := cur }, driveImage := img, session := z } ∧
      z.pendSwap = x.session.pendSwap ∧ z.inLoop = x.session.inLoop ∧ z.exitReason = x.session.exitReason ∧
      (cur = x.caddy.current ∨ cur < x.caddy.images.length) ∧
      (img = x.driveImage ∨ ∃ i ∈ x.caddy.images, img = some i) := by
  have images : ∀ sw, (swapCaddy sw x.caddy).images = x.caddy.images := by
    intro sw
    cases sw <;> simp [swapCaddy, Caddy.nextDisk, Caddy.prevDisk, Caddy.selectImage] <;> split <;> rfl
  have keep : ∃ cur img z, x = { x with caddy := { x.caddy with current := cur }, driveImage := img, session := z } ∧
      z.pendSwap = x.session.pendSwap ∧ z.inLoop = x.session.inLoop ∧ z.exitReason = x.session.exitReason ∧
      (cur = x.caddy.current ∨ cur < x.caddy.images.length) ∧
      (img = x.driveImage ∨ ∃ i ∈ x.caddy.images, img = some i) :=
    ⟨x.caddy.current, x.driveImage, x.session, rfl, rfl, rfl, rfl, .inl rfl, .inl rfl⟩
  unfold serviceSwap
  split
  · dsimp only
    have hi := images x.session.pendSwap
    clear images
    generalize swapCaddy x.session.pendSwap x.caddy = y at hi
    obtain ⟨is, n⟩ := y
    dsimp only at hi ⊢
    subst hi
    split <;> rename_i hc
    · exact ⟨n, x.driveImage, x.session, rfl, rfl, rfl, rfl, .inl hc, .inl rfl⟩
    · split
      · exact keep
      · rename_i img him
        split
        · refine ⟨n, some img, applyQuirk c img x.session, rfl, ?_, ?_, ?_, .inr (List.getElem?_eq_some_iff.1 him).1,
            .inr ⟨img, List.mem_of_getElem? him, rfl⟩⟩ <;> (unfold applyQuirk; split <;> rfl)
        · exact keep
  · exact keep

/-! ## The arbiter -/

theorem enterSession_outside (d : DriveId) (s : State) : SameOutside d s (enterSession d s) := by
  unfold enterSession
  dsimp only
  exact ((busReset_outside _ _).trans (spend_outside _ _ _)).trans (mod_outside _ _ _)

/-- What `EMULATE_ENTER` makes of the record after `DD_ENTER` (R167). -/
theorem enterSession_drive (d : DriveId) (s : State) :
    ∃ out rep head e, (enterSession d s).drive d =
      { s.drive d with
        lines := Lines.released, out := out, notImplReported := rep, env := e
        session := freshSession head (s.drive d).session
        phase := firstPhase s.cfg
        tickStep := .a } := by
  obtain ⟨out, rep, h⟩ := busReset_drive d s
  exact ⟨out, rep, (busReset d s).headAnswer d, envAfter (busReset d s) d .head, by
    simp [enterSession, Drive.modSession, drive_spend, h]⟩

theorem leaveSession_outside (d : DriveId) (s : State) : SameOutside d s (leaveSession d s) := by
  unfold leaveSession
  dsimp only
  refine .trans ?_ (setResult_outside _ _ _)
  split
  · exact ((mod_outside _ _ _).trans (emit_outside _ _ _)).trans (emit_outside _ _ _)
  · exact (mod_outside _ _ _).trans (emit_outside _ _ _)

/-- What `EMULATE_EXIT` makes of the record after `DD_EXIT` (R188). -/
theorem leaveSession_drive (d : DriveId) (s : State) :
    (leaveSession d s).drive d =
      { s.drive d with
        caddy := ⟨[], 0⟩, driveImage := none, mode := .iecCommands
        result := .exit (s.drive d).session.exitReason } := by
  unfold leaveSession
  dsimp only
  split <;> simp

theorem lockStep_other (d : DriveId) (t : LockStep) (s : State) :
    (lockStep d t s).drive d.other = s.drive d.other := by
  cases t with
  | acquire => simp [lockStep]
  | release => simp [lockStep]
  | countUp => simp [lockStep, setInLoop]
  | countDown => simp [lockStep, setInLoop]
  | enterSession => exact (enterSession_outside d s).other
  | leaveSession => exact (leaveSession_outside d s).other

theorem lockStep_cfg (d : DriveId) (t : LockStep) (s : State) : (lockStep d t s).cfg = s.cfg := by
  cases t with
  | acquire => rfl
  | release => rfl
  | countUp => simp [lockStep, setInLoop]
  | countDown => simp [lockStep, setInLoop]
  | enterSession => exact (enterSession_outside d s).cfg
  | leaveSession => exact (leaveSession_outside d s).cfg

/-- A step of an operation writes no step list: only `runSteps` does. -/
theorem lockStep_todo (d : DriveId) (t : LockStep) (s : State) :
    ((lockStep d t s).drive d).todo = (s.drive d).todo := by
  cases t with
  | acquire => simp [lockStep]
  | release => simp [lockStep]
  | countUp => simp [lockStep, setInLoop]
  | countDown => simp [lockStep, setInLoop]
  | enterSession =>
    obtain ⟨_, _, _, _, h⟩ := enterSession_drive d s
    simp [lockStep, h]
  | leaveSession => simp [lockStep, leaveSession_drive]

/-- What holds of a state and survives a step list written and every step taken holds after the steps of an operation
that are taken now, however many they are. -/
theorem runSteps_ind {P : State → Prop} (d : DriveId) (todo : ∀ ts s, P s → P (setTodo d ts s))
    (lock : ∀ t s, P s → P (lockStep d t s)) (n : Nat) (ts : List LockStep) (s : State) (h : P s) :
    P (runSteps d n ts s) := by
  induction n generalizing ts s with
  | zero => exact todo _ _ h
  | succ n ih =>
    cases ts with
    | nil => exact todo _ _ h
    | cons t ts =>
      unfold runSteps
      split
      · exact ih _ _ (lock _ _ h)
      · exact todo _ _ h

/-- What a lock step leaves alone outside its instance: everything but the lock, the counter and the trace. -/
theorem lockStep_keeps (d : DriveId) (t : LockStep) (s : State) :
    (lockStep d t s).drive d.other = s.drive d.other ∧ (lockStep d t s).cfg = s.cfg ∧ (lockStep d t s).cur = s.cur ∧
      (lockStep d t s).side = s.side ∧ (lockStep d t s).agenda = s.agenda ∧ (lockStep d t s).unbroken = s.unbroken := by
  refine ⟨lockStep_other _ _ _, lockStep_cfg _ _ _, ?_⟩
  cases t with
  | enterSession =>
    have o := enterSession_outside d s
    exact ⟨o.cur, o.side, o.agenda, o.unbroken⟩
  | leaveSession =>
    have o := leaveSession_outside d s
    exact ⟨o.cur, o.side, o.agenda, o.unbroken⟩
  | acquire => exact ⟨rfl, rfl, rfl, rfl⟩
  | release => exact ⟨rfl, rfl, rfl, rfl⟩
  | countUp => simp [lockStep, setInLoop]
  | countDown => simp [lockStep, setInLoop]

/-- What the steps of an operation leave alone outside their instance, however many are taken now. -/
theorem runSteps_keeps (d : DriveId) (n : Nat) (ts : List LockStep) (s : State) :
    (runSteps d n ts s).drive d.other = s.drive d.other ∧ (runSteps d n ts s).cfg = s.cfg ∧
      (runSteps d n ts s).cur = s.cur ∧ (runSteps d n ts s).side = s.side ∧ (runSteps d n ts s).agenda = s.agenda ∧
      (runSteps d n ts s).unbroken = s.unbroken := by
  refine runSteps_ind (P := fun u => u.drive d.other = s.drive d.other ∧ u.cfg = s.cfg ∧ u.cur = s.cur ∧
    u.side = s.side ∧ u.agenda = s.agenda ∧ u.unbroken = s.unbroken) d ?_ ?_ n ts s ⟨rfl, rfl, rfl, rfl, rfl, rfl⟩
  · intro _ _ h
    simpa [setTodo] using h
  · intro t u h
    obtain ⟨k1, k2, k3, k4, k5, k6⟩ := lockStep_keeps d t u
    exact ⟨k1.trans h.1, k2.trans h.2.1, k3.trans h.2.2.1, k4.trans h.2.2.2.1, k5.trans h.2.2.2.2.1,
      k6.trans h.2.2.2.2.2⟩

/-- With no step left nothing is taken, however many may be. -/
theorem runSteps_nil (d : DriveId) (n : Nat) (s : State) : runSteps d n [] s = setTodo d [] s := by
  cases n <;> rfl

end Sys2Proof.Machine
end

