-- ==== Sys2Proof/Laws/Control.lean ====
section
/-! SUPPORT. What most operations keep of a record: the control point, the chip kind, the caddy, the drive model's
image, the gate during a session, and the debouncer file up to polls. -/

namespace Sys2Proof.Machine

/-- `y` has the control point, the chip kind, the loop membership, the caddy and the image of `x`; its gate holds
during a session if that of `x` does (R23); its buttons are those of `x` after any number of polls. -/
structure SameControl (c : Config) (x y : Drive) : Prop where
  mode : y.mode = x.mode
  phase : y.phase = x.phase
  chipKind : y.chipKind = x.chipKind
  todo : y.todo = x.todo
  exitReason : y.session.exitReason = x.session.exitReason
  inLoop : y.session.inLoop = x.session.inLoop
  caddy : y.caddy = x.caddy
  driveImage : y.driveImage = x.driveImage
  gate : x.phase ≠ .idle → x.lines.atnaDataSetToOut = gate x.chipKind x.lines.viaAtna x.lines.piAtn →
    y.lines.atnaDataSetToOut = gate y.chipKind y.lines.viaAtna y.lines.piAtn
  length : y.buttons.length = x.buttons.length
  buttons : ∀ P : Button → Prop, (∀ a b, P b → P (pollButton c a b)) → (∀ b ∈ x.buttons, P b) → ∀ b ∈ y.buttons, P b

theorem SameControl.refl {c : Config} (x : Drive) : SameControl c x x := by
  constructor <;> simp

theorem SameControl.trans {c : Config} {x y z : Drive} (h : SameControl c x y) (k : SameControl c y z) :
    SameControl c x z where
  mode := k.mode.trans h.mode
  phase := k.phase.trans h.phase
  chipKind := k.chipKind.trans h.chipKind
  todo := k.todo.trans h.todo
  exitReason := k.exitReason.trans h.exitReason
  inLoop := k.inLoop.trans h.inLoop
  caddy := k.caddy.trans h.caddy
  driveImage := k.driveImage.trans h.driveImage
  gate a b := k.gate (by rw [h.phase]; exact a) (h.gate a b)
  length := k.length.trans h.length
  buttons P p b := k.buttons P p (h.buttons P p b)

/-- A record that differs from another in none of these fields, but for the gate. -/
theorem SameControl.of {c : Config} {x y : Drive} (mode : y.mode = x.mode) (phase : y.phase = x.phase)
    (chipKind : y.chipKind = x.chipKind) (todo : y.todo = x.todo)
    (exitReason : y.session.exitReason = x.session.exitReason) (inLoop : y.session.inLoop = x.session.inLoop)
    (caddy : y.caddy = x.caddy) (driveImage : y.driveImage = x.driveImage) (buttons : y.buttons = x.buttons)
    (lines : y.lines = x.lines ∨ y.lines.atnaDataSetToOut = Machine.gate y.chipKind y.lines.viaAtna y.lines.piAtn) :
    SameControl c x y where
  mode := mode
  phase := phase
  chipKind := chipKind
  todo := todo
  exitReason := exitReason
  inLoop := inLoop
  caddy := caddy
  driveImage := driveImage
  gate _ b := by
    rcases lines with h | h
    · rw [h, chipKind]; exact b
    · exact h
  length := by rw [buttons]
  buttons P _ h := by rw [buttons]; exact h

/-! ## The bus unit and the debouncer -/

theorem spend_control (c : Config) (s : State) (d : DriveId) (p : Port) :
    SameControl c (s.drive d) ((s.spend d p).drive d) := by
  rw [drive_spend]
  exact .of rfl rfl rfl rfl rfl rfl rfl rfl rfl (.inl rfl)

theorem pollFile_forall {c : Config} {raw : RawWord} {P : Button → Prop} (p : ∀ a b, P b → P (pollButton c a b))
    (masks : List RawWord) (bs : List Button) (h : ∀ b ∈ bs, P b) : ∀ b ∈ pollFile c raw masks bs, P b := by
  induction masks generalizing bs with
  | nil => simpa [pollFile] using h
  | cons m ms ih =>
    cases bs with
    | nil => simp [pollFile]
    | cons b bs =>
      simp only [pollFile, List.forall_mem_cons] at h ⊢
      exact ⟨p _ _ h.1, ih _ h.2⟩

theorem pollButtons_control (d : DriveId) (s : State) :
    SameControl s.cfg (s.drive d) ((pollButtons d s).drive d) := by
  rw [pollButtons_drive]
  refine ⟨rfl, rfl, rfl, rfl, rfl, rfl, rfl, rfl, fun _ h => h, pollFile_length _ _ _ _, ?_⟩
  exact fun P p h => pollFile_forall p _ _ h

theorem readEmu1541_control (c : Config) (d : DriveId) (s : State) :
    SameControl c (s.drive d) ((readEmu1541 d s).drive d) := by
  cases h : splitUnsupported s.cfg
  · rw [readEmu1541_drive _ _ h]
    exact .of rfl rfl rfl rfl rfl rfl rfl rfl rfl (.inr rfl)
  · simp only [readEmu1541, h, ↓reduceIte, notImpl_drive]
    exact .of rfl rfl rfl rfl rfl rfl rfl rfl rfl (.inl rfl)

theorem readEmu1581_control (c : Config) (d : DriveId) (s : State) :
    SameControl c (s.drive d) ((readEmu1581 d s).drive d) := by
  cases h : splitUnsupported s.cfg
  · rw [readEmu1581_drive _ _ h]
    exact .of rfl rfl rfl rfl rfl rfl rfl rfl rfl (.inr rfl)
  · simp only [readEmu1581, h, ↓reduceIte, notImpl_drive]
    exact .of rfl rfl rfl rfl rfl rfl rfl rfl rfl (.inl rfl)

theorem readEmu_control (c : Config) (d : DriveId) (s : State) :
    SameControl c (s.drive d) ((readEmu d s).drive d) := by
  unfold readEmu
  split
  · exact readEmu1541_control _ _ _
  · exact readEmu1581_control _ _ _
  · exact .refl _
  · exact .refl _

theorem refresh_control (c : Config) (d : DriveId) (s : State) :
    SameControl c (s.drive d) ((refresh d s).drive d) := by
  rw [refresh_drive]
  split <;> exact .of rfl rfl rfl rfl rfl rfl rfl rfl rfl (.inl rfl)

theorem portBOut_control (c : Config) (status : Byte) (d : DriveId) (s : State) :
    SameControl c (s.drive d) ((portBOut status d s).drive d) := by
  rw [portBOut_drive]
  exact .of rfl rfl rfl rfl rfl rfl rfl rfl rfl (.inr rfl)

theorem setSrqOut_control (c : Config) (b : Bool) (d : DriveId) (s : State) :
    SameControl c (s.drive d) ((setSrqOut b d s).drive d) := by
  rw [setSrqOut_drive]
  constructor <;> simp

theorem busReset_control (c : Config) (d : DriveId) (s : State) :
    SameControl c (s.drive d) ((busReset d s).drive d) := by
  obtain ⟨out, rep, h⟩ := busReset_drive d s
  rw [h]
  exact .of rfl rfl rfl rfl rfl rfl rfl rfl rfl (.inr (by cases (s.drive d).chipKind <;> rfl))

theorem chipCall_control (c : Config) (d : DriveId) (s : State) (call : ChipCall) :
    SameControl c (s.drive d) ((chipCall d s call).drive d) := by
  cases call with
  | portBOut status => exact portBOut_control _ _ _ _
  | setSrqOut b => exact setSrqOut_control _ _ _ _

theorem cpuStep_control (c : Config) (d : DriveId) (s : State) :
    SameControl c (s.drive d) ((cpuStep d s).drive d) := by
  have calls : ∀ (cs : List ChipCall) (t : State), SameControl c (t.drive d) ((cs.foldl (chipCall d) t).drive d) := by
    intro cs
    induction cs with
    | nil => exact fun t => .refl _
    | cons call cs ih => exact fun t => (chipCall_control c d t call).trans (ih _)
  simpa [cpuStep] using (spend_control c s d .calls).trans (calls _ _)

/-! ## The sub-steps of a tick -/

theorem setStep_control (c : Config) (d : DriveId) (n : TickStep) (s : State) :
    SameControl c (s.drive d) ((setStep d n s).drive d) := by
  rw [setStep_drive]
  exact .of rfl rfl rfl rfl rfl rfl rfl rfl rfl (.inl rfl)

theorem tickA_control (c : Config) (d : DriveId) (s : State) :
    SameControl c (s.drive d) ((tickA d s).drive d) := by
  have h : (tickA d s).drive d =
      { s.drive d with
        session := { (s.drive d).session with before := s.nowAnswer d }, tickStep := .b, env := envAfter s d .now } := by
    simp [tickA, drive_spend, Drive.modSession]
  rw [h]
  exact .of rfl rfl rfl rfl rfl rfl rfl rfl rfl (.inl rfl)

theorem tickB_control (c : Config) (d : DriveId) (s : State) :
    SameControl c (s.drive d) ((tickB d s).drive d) := by
  unfold tickB
  split
  · exact (readEmu_control _ _ _).trans (setStep_control _ _ _ _)
  · exact setStep_control _ _ _ _

/-- The snoop matcher writes its index and the countdown (R175). -/
theorem snoopByte_keeps (c : Config) (b : Byte) (z : Session) :
    (snoopByte c b z).exitReason = z.exitReason ∧ (snoopByte c b z).inLoop = z.inLoop := by
  unfold snoopByte
  split
  · split
    · split <;> exact ⟨rfl, rfl⟩
    · exact ⟨rfl, rfl⟩
  · exact ⟨rfl, rfl⟩

theorem tickC_control (c : Config) (d : DriveId) (s : State) :
    SameControl c (s.drive d) ((tickC d s).drive d) := by
  unfold tickC
  dsimp only
  refine .trans ?_ (setStep_control _ _ _ _)
  split
  · refine (spend_control c s d .cpu).trans ?_
    rw [drive_mod_self]
    exact .of rfl rfl rfl rfl (snoopByte_keeps _ _ _).1 (snoopByte_keeps _ _ _).2 rfl rfl rfl (.inl rfl)
  · exact spend_control _ _ _ _

theorem tickD_control (c : Config) (d : DriveId) (s : State) :
    SameControl c (s.drive d) ((tickD d s).drive d) :=
  (cpuStep_control _ _ _).trans (setStep_control _ _ _ _)

theorem tickE_control (c : Config) (d : DriveId) (s : State) :
    SameControl c (s.drive d) ((tickE d s).drive d) := by
  unfold tickE
  split
  · exact (refresh_control _ _ _).trans (setStep_control _ _ _ _)
  · exact setStep_control _ _ _ _

theorem tickF_control (c : Config) (d : DriveId) (s : State) :
    SameControl c (s.drive d) ((tickF d s).drive d) := by
  unfold tickF
  dsimp only
  refine .trans ?_ (setStep_control _ _ _ _)
  refine (spend_control c s d .led).trans ?_
  split
  · rw [drive_emit, drive_mod_self]
    exact .of rfl rfl rfl rfl rfl rfl rfl rfl rfl (.inl rfl)
  · rw [drive_mod_self]
    exact .of rfl rfl rfl rfl rfl rfl rfl rfl rfl (.inl rfl)

theorem headMoved_control (c k : Config) (hv : HeadValue) (x : Drive) : SameControl c x (headMoved k hv x) := by
  refine .of rfl rfl rfl rfl ?_ ?_ rfl rfl rfl (.inl rfl) <;>
    (unfold headMoved; simp only [Drive.modSession]; split <;> rfl)

theorem soundWave_control (c k : Config) (x : Drive) : SameControl c x (soundWave k x) := by
  unfold soundWave
  split
  · exact .of rfl rfl rfl rfl rfl rfl rfl rfl rfl (.inl rfl)
  · exact .refl _

theorem tickG_control (c : Config) (d : DriveId) (s : State) :
    SameControl c (s.drive d) ((tickG d s).drive d) := by
  unfold tickG
  dsimp only
  refine .trans ?_ (setStep_control _ _ _ _)
  rw [drive_mod_self]
  refine .trans ?_ (soundWave_control _ _ _)
  refine (spend_control c s d .head).trans ?_
  split
  · split
    · rw [drive_emit, drive_mod_self]
      exact headMoved_control _ _ _ _
    · rw [drive_mod_self]
      exact headMoved_control _ _ _ _
  · exact .refl _

theorem takeSwapRequest_control (c k : Config) (x : Drive) : SameControl c x (takeSwapRequest k x) := by
  unfold takeSwapRequest
  dsimp only
  split
  · exact .of rfl rfl rfl rfl rfl rfl rfl rfl rfl (.inl rfl)
  · split
    · exact .of rfl rfl rfl rfl rfl rfl rfl rfl rfl (.inl rfl)
    · split
      · exact .of rfl rfl rfl rfl rfl rfl rfl rfl rfl (.inl rfl)
      · exact .refl _

theorem tickH_control (d : DriveId) (s : State) : SameControl s.cfg (s.drive d) ((tickH d s).drive d) := by
  unfold tickH
  dsimp only
  refine .trans ?_ (setStep_control _ _ _ _)
  rw [drive_mod_self]
  refine .trans ?_ (takeSwapRequest_control _ _ _)
  refine .trans (y := ((if mayPoll d s (s.drive d) = true then pollButtons d s else s).drive d)) ?_ ?_
  · split
    · exact pollButtons_control _ _
    · exact .refl _
  · exact .of rfl rfl rfl rfl rfl rfl rfl rfl rfl (.inl rfl)

theorem tickJ_control (c : Config) (d : DriveId) (s : State) :
    SameControl c (s.drive d) ((tickJ d s).drive d) := by
  unfold tickJ
  dsimp only
  refine .trans ?_ (setStep_control _ _ _ _)
  refine (spend_control c s d .now).trans ?_
  have h : ∀ b : Prop, [Decidable b] → SameControl c ((s.spend d .now).drive d)
      ((if b then (s.spend d .now).emit (.log d .lostCycle) else s.spend d .now).drive d) := by
    intro b _
    split
    · rw [drive_emit]
      exact .refl _
    · exact .refl _
  split
  · rw [drive_mod_self]
    exact (h _).trans (.of rfl rfl rfl rfl rfl rfl rfl rfl rfl (.inl rfl))
  · exact h _

theorem tickJX_control (c : Config) (d : DriveId) (s : State) :
    SameControl c (s.drive d) ((tickJX d s).drive d) := by
  unfold tickJX
  split
  · exact setStep_control _ _ _ _
  · exact ((refresh_control _ _ _).trans (readEmu_control _ _ _)).trans (setStep_control _ _ _ _)

/-! ## Ready for the next operation -/

/-- A ready instance stays ready under an operation that keeps its control. -/
theorem SameControl.ready {c : Config} {s t : State} (h : SameControl c (s.drive s.cur) (t.drive s.cur))
    (o : SameOutside s.cur s t) (r : s.ready) : t.ready := by
  refine ⟨?_, ?_, ?_⟩
  · rw [o.cur]
    unfold State.present
    rw [o.cfg]
    exact r.1
  · rw [State.self, o.cur, h.mode]
    exact r.2.1
  · rw [State.self, o.cur, h.todo]
    exact r.2.2

end Sys2Proof.Machine
end

