-- ==== Sys2Proof/Laws/PerInstr.lean ====
section
/-! SUPPORT. One lemma for each operation: its encoding has the fixed bits that its row of `spec/opcode_table.json`
gives (`mask` and `match`, copied from the table). -/

namespace Sys2Proof.Laws.EncodingMatchesTable

open Sys2Proof

/-- The `mask` of the operation's row. -/
def tableMask : Instr → CommandWord
  | .busReset => 0xFFFF
  | .readBrowse => 0xFFFF
  | .readEmu1541 => 0xFFFF
  | .readEmu1581 => 0xFFFF
  | .refresh1541 => 0xFFFF
  | .refresh1581 => 0xFFFF
  | .portBOut _ => 0x00FF
  | .setSrqOut _ => 0xFEFF
  | .pollButtons => 0xFFFF
  | .fastpathEvent _ => 0xFCFF
  | .beginEmulating => 0xFFFF
  | .emulateEnter => 0xFFFF
  | .fastbootStep => 0xFFFF
  | .tick => 0xFFFF
  | .emulateExit => 0xFFFF
  | .shutdown => 0xFFFF
  | .ddEnter => 0xFFFF
  | .ddExit => 0xFFFF
  | .caddyInsert _ => 0xFEFF
  | .selectFirst => 0xFFFF
  | .selectImage _ => 0x00FF
  | .nextDisk => 0xFFFF
  | .prevDisk => 0xFFFF
  | .getCount => 0xFFFF
  | .tickA => 0xFFFF
  | .tickB => 0xFFFF
  | .tickC => 0xFFFF
  | .tickD => 0xFFFF
  | .tickE => 0xFFFF
  | .tickF => 0xFFFF
  | .tickG => 0xFFFF
  | .tickH => 0xFFFF
  | .tickI => 0xFFFF
  | .tickJ => 0xFFFF
  | .tickJX => 0xFFFF
  | .tickK => 0xFFFF

/-- The `match` of the operation's row. -/
def tableMatch : Instr → CommandWord
  | .busReset => 0x0001
  | .readBrowse => 0x0002
  | .readEmu1541 => 0x0003
  | .readEmu1581 => 0x0004
  | .refresh1541 => 0x0005
  | .refresh1581 => 0x0006
  | .portBOut _ => 0x0007
  | .setSrqOut _ => 0x0008
  | .pollButtons => 0x0010
  | .fastpathEvent _ => 0x0020
  | .beginEmulating => 0x0021
  | .emulateEnter => 0x0022
  | .fastbootStep => 0x0023
  | .tick => 0x0024
  | .emulateExit => 0x0025
  | .shutdown => 0x0026
  | .ddEnter => 0x0030
  | .ddExit => 0x0031
  | .caddyInsert _ => 0x0040
  | .selectFirst => 0x0041
  | .selectImage _ => 0x0042
  | .nextDisk => 0x0043
  | .prevDisk => 0x0044
  | .getCount => 0x0045
  | .tickA => 0x0050
  | .tickB => 0x0051
  | .tickC => 0x0052
  | .tickD => 0x0053
  | .tickE => 0x0054
  | .tickF => 0x0055
  | .tickG => 0x0056
  | .tickH => 0x0057
  | .tickI => 0x0058
  | .tickJ => 0x0059
  | .tickJX => 0x005A
  | .tickK => 0x005B

/-- The fixed bits of the row are the encoding's (R81, R82). -/
def Statement (i : Instr) : Prop :=
  encode i &&& tableMask i = tableMatch i

theorem busReset : Statement .busReset := rfl

theorem readBrowse : Statement .readBrowse := rfl

theorem readEmu1541 : Statement .readEmu1541 := rfl

theorem readEmu1581 : Statement .readEmu1581 := rfl

theorem refresh1541 : Statement .refresh1541 := rfl

theorem refresh1581 : Statement .refresh1581 := rfl

theorem portBOut (status : Byte) : Statement (.portBOut status) := by
  unfold Statement encode commandWord operandOf selectorOf tableMask tableMatch
  revert status
  decide

theorem setSrqOut (b : Bool) : Statement (.setSrqOut b) := by
  cases b <;> rfl

theorem pollButtons : Statement .pollButtons := rfl

theorem fastpathEvent (outcome : FastPathOutcome) : Statement (.fastpathEvent outcome) := by
  cases outcome <;> rfl

theorem beginEmulating : Statement .beginEmulating := rfl

theorem emulateEnter : Statement .emulateEnter := rfl

theorem fastbootStep : Statement .fastbootStep := rfl

theorem tick : Statement .tick := rfl

theorem emulateExit : Statement .emulateExit := rfl

theorem shutdown : Statement .shutdown := rfl

theorem ddEnter : Statement .ddEnter := rfl

theorem ddExit : Statement .ddExit := rfl

theorem caddyInsert (readOnly : Bool) : Statement (.caddyInsert readOnly) := by
  cases readOnly <;> rfl

theorem selectFirst : Statement .selectFirst := rfl

theorem selectImage (index : Byte) : Statement (.selectImage index) := by
  unfold Statement encode commandWord operandOf selectorOf tableMask tableMatch
  revert index
  decide

theorem nextDisk : Statement .nextDisk := rfl

theorem prevDisk : Statement .prevDisk := rfl

theorem getCount : Statement .getCount := rfl

theorem tickA : Statement .tickA := rfl

theorem tickB : Statement .tickB := rfl

theorem tickC : Statement .tickC := rfl

theorem tickD : Statement .tickD := rfl

theorem tickE : Statement .tickE := rfl

theorem tickF : Statement .tickF := rfl

theorem tickG : Statement .tickG := rfl

theorem tickH : Statement .tickH := rfl

theorem tickI : Statement .tickI := rfl

theorem tickJ : Statement .tickJ := rfl

theorem tickJX : Statement .tickJX := rfl

theorem tickK : Statement .tickK := rfl

end Sys2Proof.Laws.EncodingMatchesTable
end

