-- ==== Sys2Proof/Tests/Slice0.lean ====
section
/-! SUPPORT. Tests: words written out from the encoding, the checks of WellFormed, single steps with results taken from
`95_test_vectors.md` (the vector's name stands in the comment), and states that meet the hypotheses of the statements. -/

namespace Sys2Proof.Tests

open Sys2Proof.Machine

/-! ## Helpers -/

/-- The machine after reset, its agenda empty, drive 0 changed by `f`; operations run whole. -/
def start (f : Drive → Drive) : State :=
  { State.reset with d0 := f State.reset.d0, agenda := [], unbroken := wholeOperation }

/-- `s`, with only the first atomic step of an operation taken before another agent acts. -/
def interrupted (s : State) : State := { s with unbroken := 0 }

/-- An image with a given hash and type. -/
def image (hash : ContentHash) (d81 : Bool) : Image :=
  ⟨0, false, "i", hash, d81⟩

/-- Drive 0 in a session, at step `t`, with one image that is not quirky. -/
def session (kind : ChipKind) (t : TickStep) (f : Drive → Drive) : State :=
  { start fun x =>
      f { x with
        mode := modeOfKind kind
        phase := .realtime
        tickStep := t
        chipKind := kind
        caddy := ⟨[image 100 (kind = .cia1581)], 0⟩
        driveImage := some (image 100 (kind = .cia1581))
        session := { x.session with inLoop := true, refreshAfter := true } } with
    dualDrive := 1 }

/-- A part of the next state, if there is one. -/
def after {α : Type} (o : Host.Outcome State Fault Refusal) (f : State → α) : Option α :=
  match o with
  | .next t => some (f t)
  | .fault _ => none
  | .refused _ => none

/-- Both instances on one bank, instance `e` counted in its loop if `inLoop`. -/
def shared (inLoop0 inLoop1 : Bool) (n : Int) : State :=
  { start fun x => { x with session := { x.session with inLoop := inLoop0 } } with
    d1 := { State.reset.d1 with session := { State.reset.d1.session with inLoop := inLoop1 } }
    dualDrive := n
    cfg := { Config.atReset with dualDrive := true, sharedGPIO := true } }

/-! ## Decoding (V-E1 to V-E13, and the selectors of R82) -/

theorem test_decode_busUnit :
    decode 0x0001 = .ok .busReset ∧ decode 0x0002 = .ok .readBrowse ∧ decode 0x0003 = .ok .readEmu1541 ∧
      decode 0x0004 = .ok .readEmu1581 ∧ decode 0x0005 = .ok .refresh1541 ∧ decode 0x0006 = .ok .refresh1581 ∧
      decode 0x1007 = .ok (.portBOut 0x10) ∧ decode 0xFF07 = .ok (.portBOut 0xFF) ∧
      decode 0x0008 = .ok (.setSrqOut false) ∧ decode 0x0108 = .ok (.setSrqOut true) := by
  decide

theorem test_decode_debouncer : decode 0x0010 = .ok .pollButtons := by decide

theorem test_decode_sequencer :
    decode 0x0020 = .ok (.fastpathEvent .imageSelected) ∧ decode 0x0120 = .ok (.fastpathEvent .stateChange) ∧
      decode 0x0220 = .ok (.fastpathEvent .fpReset) ∧ decode 0x0021 = .ok .beginEmulating ∧
      decode 0x0022 = .ok .emulateEnter ∧ decode 0x0023 = .ok .fastbootStep ∧ decode 0x0024 = .ok .tick ∧
      decode 0x0025 = .ok .emulateExit ∧ decode 0x0026 = .ok .shutdown := by
  decide

theorem test_decode_arbiter : decode 0x0030 = .ok .ddEnter ∧ decode 0x0031 = .ok .ddExit := by decide

theorem test_decode_caddy :
    decode 0x0040 = .ok (.caddyInsert false) ∧ decode 0x0140 = .ok (.caddyInsert true) ∧
      decode 0x0041 = .ok .selectFirst ∧ decode 0x0342 = .ok (.selectImage 3) ∧
      decode 0xFF42 = .ok (.selectImage 255) ∧ decode 0x0043 = .ok .nextDisk ∧ decode 0x0044 = .ok .prevDisk ∧
      decode 0x0045 = .ok .getCount := by
  decide

theorem test_decode_tick :
    decode 0x0050 = .ok .tickA ∧ decode 0x0051 = .ok .tickB ∧ decode 0x0052 = .ok .tickC ∧
      decode 0x0053 = .ok .tickD ∧ decode 0x0054 = .ok .tickE ∧ decode 0x0055 = .ok .tickF ∧
      decode 0x0056 = .ok .tickG ∧ decode 0x0057 = .ok .tickH ∧ decode 0x0058 = .ok .tickI ∧
      decode 0x0059 = .ok .tickJ ∧ decode 0x005A = .ok .tickJX ∧ decode 0x005B = .ok .tickK := by
  decide

/-- V-E5, V-E6, V-E10. -/
theorem test_decode_reservedOperand :
    decode 0x0208 = .error .operand ∧ decode 0x0102 = .error .operand ∧ decode 0x0420 = .error .operand ∧
      decode 0x0320 = .error .outcomeCode := by
  decide

/-- V-E11. -/
theorem test_decode_reservedSelector :
    [0x0009, 0x0011, 0x0027, 0x0032, 0x0046, 0x005C, 0x0060, 0x0000].all
      (fun w => decide (decode w = .error .selector)) = true := by
  decide

/-! ## WellFormed -/

theorem test_wf_atReset : Config.atReset.wf = true := by decide

theorem test_wf_pinsOneHot : { Config.atReset with pinAtn := 3 }.pinsOneHot = false := by decide

theorem test_wf_pinsOneHot_width : { Config.atReset with pinAtn := 2 ^ 32 }.pinsOneHot = false := by decide

theorem test_wf_pinsDistinct : { Config.atReset with pinAtn := 0x02 }.pinsDistinct = false := by decide

theorem test_wf_statusMasks : { Config.atReset with stAtna := 0x02 }.statusMasksDistinct = false := by decide

theorem test_wf_threshold : { Config.atReset with debounceThreshold := 0 }.thresholdPositive = false := by decide

theorem test_wf_repeat_empty : { Config.atReset with repeatIntervals := [] }.repeatShape = false := by decide

theorem test_wf_repeat_increasing : { Config.atReset with repeatIntervals := [2, 4] }.repeatShape = false := by decide

theorem test_wf_repeat_zero : { Config.atReset with repeatIntervals := [2, 0] }.repeatShape = false := by decide

theorem test_wf_countdown : { Config.atReset with exitCountdown := 0 }.countdownPositive = false := by decide

theorem test_wf_hashes : { Config.atReset with quirkHashes := [1] }.eightHashes = false := by decide

theorem test_wf_sound : { Config.atReset with soundHalfPeriod := 0 }.soundPositive = false := by decide

/-! ## The bus unit -/

/-- V-S4. -/
theorem test_readBrowse :
    after (exec .readBrowse (start fun x => { x with env := { x.env with gpio := [0x3CE] } })) (fun t =>
      (t.d0.lines.piAtn, t.d0.lines.resetting, t.d0.lines.piData, t.d0.rawSample, t.d0.buttons.map Button.count)) =
    some (true, true, false, 0x3CE, [1, 0, 0, 0, 0]) := by
  decide

/-- V-S3, with the row V-A4 of instance 0 in its loop. -/
theorem test_readBrowse_notEligible :
    after (exec .readBrowse { shared true false 1 with cur := .drive1 }) (fun t => (t.d1.rawSample, t.trace)) =
    some (0x3FF, []) := by
  decide

/-- V-S6. -/
theorem test_readEmu1541 :
    after (exec .readEmu1541 (session .via1541 .b fun x => { x with env := { x.env with gpio := [0x1E] } })) (fun t =>
      (t.d0.lines.piAtn, t.d0.lines.atnaDataSetToOut, t.d0.lines.piData, t.d0.lines.piClock, t.trace)) =
    some (true, true, true, false,
      [.gpioRead .drive0 0x1E, .setInput .drive0 0x80 true, .inputCA1 .drive0 true, .setInput .drive0 0x01 true,
        .setInput .drive0 0x04 false]) := by
  decide

/-- V-S7: the gate is released, the pin says asserted. -/
theorem test_readEmu1541_pin :
    after (exec .readEmu1541 (session .via1541 .b fun x =>
      { x with lines := { x.lines with viaAtna := true }, env := { x.env with gpio := [0x1C] } })) (fun t =>
      (t.d0.lines.atnaDataSetToOut, t.d0.lines.piData)) = some (false, true) := by
  decide

/-- V-S12, with `FLAG_ACTIVE_LOW`. -/
theorem test_readEmu1581 :
    after (exec .readEmu1581 (session .cia1581 .b fun x =>
      { x with lines := { x.lines with viaAtna := true }, env := { x.env with gpio := [0x1E] } })) (fun t =>
      (t.d0.lines.atnaDataSetToOut, t.d0.lines.piData, t.trace.take 3)) =
    some (true, true, [.gpioRead .drive0 0x1E, .setInput .drive0 0x80 true, .setPinFLAG .drive0 false]) := by
  decide

/-- V-S13. -/
theorem test_readEmu1581_srq :
    after (exec .readEmu1581 (session .cia1581 .b fun x => { x with env := { x.env with gpio := [0x17] } }))
      (fun t => (t.d0.lines.piSRQ, t.d0.lines.piData)) = some (true, false) := by
  decide

/-- V-D4: both pins are inputs, so both intents are forced. -/
theorem test_portBOut_direction :
    after (exec (.portBOut 0x00) (start fun x => { x with env := { x.env with direction := [0x10] } })) (fun t =>
      (t.d0.lines.dataSetToOut, t.d0.lines.clockSetToOut, t.d0.lines.piData, t.d0.lines.piClock, t.d0.lines.viaAtna)) =
    some (true, true, true, true, false) := by
  decide

/-- V-D6: a released line keeps its sensed flag. -/
theorem test_portBOut_stale :
    after (exec (.portBOut 0x00) (start fun x =>
      { x with
        lines := { x.lines with viaData := true, dataSetToOut := true, piData := true }
        env := { x.env with direction := [0x1A] } })) (fun t =>
      (t.d0.lines.viaData, t.d0.lines.dataSetToOut, t.d0.lines.piData, t.trace)) = some (false, false, true, []) := by
  decide

/-- V-D12. -/
theorem test_setSrqOut :
    after (exec (.setSrqOut false) (start fun x =>
      { x with lines := { x.lines with srqSetToOut := true, piSRQ := true } })) (fun t =>
      (t.d0.lines.srqSetToOut, t.d0.lines.piSRQ)) = some (false, true) := by
  decide

/-- V-D7. -/
theorem test_refresh1541 :
    after (exec .refresh1541 (start fun x =>
      { x with lines := { x.lines with atnaDataSetToOut := true, clockSetToOut := true }, outputLED := true })) (fun t =>
      (t.d0.out.pack, t.trace)) = some (0x0B, [.gpioDrive .drive0 ⟨true, true, false, true, false⟩]) := by
  decide

/-- V-D8. -/
theorem test_refresh1581 :
    after (exec .refresh1581 (start fun x =>
      { x with
        chipKind := .cia1581
        lines := { x.lines with dataSetToOut := true, clockSetToOut := true, srqSetToOut := true }
        outputLED := true
        outputSound := true })) (fun t => t.d0.out.pack) = some 0x1F := by
  decide

/-- V-D9. -/
theorem test_busReset_1541 :
    after (exec .busReset (start fun x =>
      { x with
        lines := { x.lines with viaAtna := true, atnaDataSetToOut := true, piData := true, resetting := true }
        out := ⟨true, false, false, false, false⟩ })) (fun t => (t.d0.lines, t.d0.out.pack, t.trace)) =
    some (Lines.released, 0x01, []) := by
  decide

/-- V-D10. -/
theorem test_busReset_1581 :
    after (exec .busReset (start fun x =>
      { x with
        chipKind := .cia1581
        lines := { x.lines with clockSetToOut := true }
        outputLED := true
        outputSound := true })) (fun t => (t.d0.lines, t.d0.out.pack)) = some (Lines.released, 0x18) := by
  decide

/-! ## The debouncer -/

/-- V-B1 and V-B3: the third poll presses, and the button repeats at poll 7. -/
theorem test_pollButtons_fires :
    after (exec .pollButtons (start fun x =>
        { x with rawSample := 0x3DF, buttons := [⟨true, 2, 0, 0, false, false⟩] })) (fun t => t.d0.buttons) =
      some [⟨true, 3, 7, 1, true, true⟩] ∧
    after (exec .pollButtons (start fun x =>
        { x with rawSample := 0x3DF, buttons := [⟨true, 6, 7, 1, true, false⟩] })) (fun t => t.d0.buttons) =
      some [⟨true, 7, 9, 2, true, true⟩] := by
  decide

/-- R151, D31: an eligible instance polls a sample once; a non-eligible one never does. -/
theorem test_pollButtons_refused :
    after (exec .pollButtons (start fun x => x)) (fun t => t.d0.samplePolled) = some true ∧
      after (exec .pollButtons (start fun x => { x with samplePolled := true })) (fun t => t.cur) = none ∧
      after (exec .pollButtons { shared true false 1 with cur := .drive1 }) (fun t => t.cur) = none := by
  decide

/-! ## The sequencer -/

/-- V-L26. -/
theorem test_imageSelected_fails :
    after (exec (.fastpathEvent .imageSelected) (start fun x =>
      { x with latches := { x.latches with reqMount := some 7 }, env := { x.env with opened := [none] } })) (fun t =>
      (t.d0.mode, t.d0.latches.reqMount, t.d0.caddy.images.length, t.trace)) =
    some (.iecCommands, none, 0, [.log .drive0 .mountFailed]) := by
  decide

/-- V-L27. -/
theorem test_stateChange :
    after (exec (.fastpathEvent .stateChange) (start fun x =>
      { x with latches := { x.latches with reqDeviceID := some .dev9 } })) (fun t =>
      (t.d0.deviceID, t.d0.latches.reqDeviceID)) = some (.dev9, none) := by
  decide

/-- V-L1: a quirky image. -/
theorem test_beginEmulating_quirk :
    after (exec .beginEmulating (start fun x => { x with caddy := ⟨[image 3 false], 0⟩ })) (fun t =>
      (t.d0.mode, t.d0.chipKind, t.d0.session.refreshAfter, t.trace)) =
    some (.emulating1541, .via1541, false, [.modeChange .drive0 .emulating1541]) := by
  decide

/-- V-L4. -/
theorem test_beginEmulating_d81 :
    after (exec .beginEmulating (start fun x => { x with caddy := ⟨[image 100 true], 0⟩ })) (fun t =>
      (t.d0.mode, t.d0.chipKind, t.d0.session.refreshAfter)) = some (.emulating1581, .cia1581, true) := by
  decide

/-- P2, step 4. -/
theorem test_emulateEnter :
    after (exec .emulateEnter (start fun x =>
      { x with mode := .emulating1541, env := { x.env with head := [9] } })) (fun t =>
      (t.dualDrive, t.lock, t.d0.session.inLoop, t.d0.phase, t.d0.session.headPrev)) =
    some (1, .free, true, .fastboot, 9) := by
  decide

/-- V-L29, with `FAST_BOOT_CYCLES` = 2. -/
theorem test_fastbootStep :
    after (exec .fastbootStep
      { session .via1541 .k fun x =>
          { x with
            phase := .fastboot
            session := { x.session with cycleCount := 1 }
            env := { x.env with calls := [[.portBOut 0x02]], direction := [0x1A] } } with
        cfg := { Config.atReset with fastBootCycles := 2 } }) (fun t =>
      (t.d0.lines.dataSetToOut, t.d0.session.cycleCount, t.d0.phase, t.d0.tickStep, t.trace)) =
    some (true, 2, .realtime, .a, [.setInput .drive0 0x01 true, .cpuStep .drive0]) := by
  decide

/-- The answers one tick asks for. -/
def tickAnswers (word : RawWord) (e : Env) : Env :=
  { e with
    gpio := [word], cpu := [⟨false, 0, 0⟩], calls := [[]], led := [false], head := [0], now := [100, 101] }

/-- P2, step 17: the eleventh asserted reset sample. -/
theorem test_tick_reset :
    after (exec .tick (session .via1541 .a fun x =>
      { x with session := { x.session with resetCount := 10 }, env := tickAnswers 0x0F x.env })) (fun t =>
      (t.d0.session.exitReason, t.d0.phase, t.d0.session.resetCount, t.trace.getLast?)) =
    some (.reset, .idle, 11, some (.exit .drive0 .reset)) := by
  decide

/-- R11, R170: an interrupted tick has taken its first sub-step, and the control point says which is next. -/
theorem test_tick_interrupted :
    after (exec .tick (interrupted (session .via1541 .a fun x => { x with env := tickAnswers 0x0F x.env }))) (fun t =>
      (t.d0.tickStep, t.d0.session.before, t.d0.lines.piAtn)) = some (.b, 100, false) := by
  decide

/-- V-L14: the swap of step k. -/
theorem test_tick_swap :
    after (exec .tick (session .via1541 .a fun x =>
      { x with
        caddy := ⟨[image 100 false, image 101 false, image 102 false], 0⟩
        latches := { x.latches with reqNext := true }
        env := tickAnswers 0x3FF x.env })) (fun t =>
      (t.d0.caddy.current, t.d0.driveImage.map fun i => i.info.hash, t.d0.session.pendSwap, t.d0.tickStep)) =
    some (1, some 101, .none, .a) := by
  decide

/-- V-X3. -/
theorem test_emulateExit :
    after (exec .emulateExit (session .via1541 .i fun x =>
      { x with
        phase := .idle
        session := { x.session with exitReason := .reset }
        lines := { x.lines with dataSetToOut := true } })) (fun t =>
      (t.dualDrive, t.d0.mode, t.d0.lines.dataSetToOut, t.d0.result, t.trace)) =
    some (0, .iecCommands, true, .exit .reset, [.modeChange .drive0 .iecCommands, .returnToRoot .drive0]) := by
  decide

/-- V-X1: no return to root. -/
theorem test_emulateExit_keyboard :
    after (exec .emulateExit (session .via1541 .i fun x =>
      { x with phase := .idle, session := { x.session with exitReason := .keyboard } })) (fun t =>
      (t.d0.result, t.trace)) = some (.exit .keyboard, [.modeChange .drive0 .iecCommands]) := by
  decide

/-- V-L25. -/
theorem test_shutdown :
    after (exec .shutdown (start fun x => { x with latches := { x.latches with reqShutdown := true } })) (fun t =>
      (t.d0.mode, t.d0.latches.reqShutdown)) = some (.emulationShutdown, false) := by
  decide

/-- R212 corner case 2: an instance still counted in its loop is not shut down. -/
theorem test_shutdown_inLoop :
    after (exec .shutdown (start fun x =>
      { x with latches := { x.latches with reqShutdown := true }, session := { x.session with inLoop := true } }))
      (fun t => t.d0.mode) = none := by
  decide

/-! ## The arbiter -/

/-- R211, corner case 1: an interrupted `DD_ENTER` holds the lock and has counted nothing. -/
theorem test_ddEnter_interrupted :
    after (exec .ddEnter (interrupted (shared false false 0))) (fun t =>
      (t.dualDrive, t.d0.session.inLoop, t.lock, t.d0.todo)) = some (0, false, .held .drive0, [.countUp, .release]) := by
  decide

/-- V-A7. -/
theorem test_ddEnter :
    after (exec .ddEnter { shared false false 0 with cur := .drive1 }) (fun t =>
      (t.dualDrive, t.d1.session.inLoop, t.lock)) = some (1, true, .free) := by
  decide

/-- V-A8: the first step waits for the lock. -/
theorem test_ddEnter_waits :
    after (exec .ddEnter { shared false false 0 with lock := .held .drive1 }) (fun t =>
      (t.dualDrive, t.d0.session.inLoop, t.d0.todo)) = some (0, false, [.acquire, .countUp, .release]) := by
  decide

/-- V-A9. -/
theorem test_ddExit :
    after (exec .ddExit (shared true true 2)) (fun t =>
      (t.dualDrive, t.readEligible .drive0, t.readEligible .drive1)) = some (1, false, true) := by
  decide

/-- The rows V-A1 to V-A6. -/
theorem test_readEligible :
    (State.reset.readEligible .drive0, State.reset.readEligible .drive1) = (true, true) ∧
      ((shared false false 0).readEligible .drive0, (shared false false 0).readEligible .drive1) = (true, false) ∧
      ((shared true false 1).readEligible .drive0, (shared true false 1).readEligible .drive1) = (true, false) ∧
      ((shared false true 1).readEligible .drive0, (shared false true 1).readEligible .drive1) = (false, true) ∧
      ((shared true true 2).readEligible .drive0, (shared true true 2).readEligible .drive1) = (true, false) := by
  decide

/-! ## The caddy -/

/-- Three images of one type, the current index `n`. -/
def three (n : Nat) : State :=
  start fun x => { x with caddy := ⟨[image 100 false, image 101 false, image 102 false], n⟩ }

/-- V-C1. -/
theorem test_caddyInsert :
    after (exec (.caddyInsert false) (start fun x => { x with env := { x.env with opened := [some ⟨"i", 100, false⟩] } }))
      (fun t => (t.d0.result, t.d0.caddy.images.map fun i => i.info.hash, t.d0.caddy.current)) =
    some (.ok true, [100], 0) := by
  decide

/-- V-C3: a full caddy fails and asks nothing. -/
theorem test_caddyInsert_full :
    after (exec (.caddyInsert false) (start fun x =>
      { x with
        caddy := ⟨List.replicate 10 (image 100 false), 0⟩
        env := { x.env with opened := [some ⟨"i", 100, false⟩] } })) (fun t =>
      (t.d0.result, t.d0.caddy.images.length, t.d0.env.opened.length)) = some (.ok false, 10, 1) := by
  decide

/-- V-C4. -/
theorem test_selectFirst_empty :
    after (exec .selectFirst (start fun x => x)) (fun t => t.d0.result) = some (.ok false) := by decide

/-- V-C5. -/
theorem test_selectImage_outside :
    after (exec (.selectImage 3) (three 1)) (fun t => (t.d0.result, t.d0.caddy.current)) = some (.ok false, 1) := by
  decide

/-- R228, its example. -/
theorem test_selectImage :
    after (exec (.selectImage 2) (three 1)) (fun t => (t.d0.result, t.d0.caddy.current)) = some (.ok true, 2) := by
  decide

/-- V-C6. -/
theorem test_nextDisk_wraps :
    after (exec .nextDisk (three 2)) (fun t => t.d0.caddy.current) = some 0 := by decide

/-- V-C6. -/
theorem test_prevDisk_wraps :
    after (exec .prevDisk (three 0)) (fun t => t.d0.caddy.current) = some 2 := by decide

/-- P4, step 2. -/
theorem test_getCount : after (exec .getCount (three 0)) (fun t => t.d0.result) = some (.count 3) := by decide

/-! ## The sub-steps of a tick -/

/-- R173, its example. -/
theorem test_tickA :
    after (exec .tickA (session .via1541 .a fun x => { x with env := { x.env with now := [1000] } })) (fun t =>
      (t.d0.session.before, t.d0.tickStep)) = some (1000, .b) := by
  decide

/-- R174, its example. -/
theorem test_tickB :
    after (exec .tickB (session .via1541 .b fun x => { x with env := { x.env with gpio := [0x1E] } })) (fun t =>
      (t.d0.lines.piAtn, t.d0.tickStep)) = some (true, .c) := by
  decide

/-- V-L12, tick 5: the fifth match. -/
theorem test_tickC :
    after (exec .tickC (session .via1541 .c fun x =>
      { x with session := { x.session with snoopIdx := 4 }, env := { x.env with cpu := [⟨true, 0xE000, 0x55⟩] } }))
      (fun t => (t.d0.session.snoopIdx, t.d0.session.countdownActive, t.d0.session.exitCountdown)) =
    some (0, true, 3) := by
  decide

/-- V-L13: a mismatch is not retried. -/
theorem test_tickC_mismatch :
    after (exec .tickC (session .via1541 .c fun x =>
      { x with session := { x.session with snoopIdx := 2 }, env := { x.env with cpu := [⟨true, 0xE000, 0x11⟩] } }))
      (fun t => t.d0.session.snoopIdx) = some 0 := by
  decide

/-- R176, its example. -/
theorem test_tickD :
    after (exec .tickD (session .via1541 .d fun x =>
      { x with env := { x.env with calls := [[.portBOut 0x02]], direction := [0x1A] } })) (fun t =>
      (t.d0.lines.dataSetToOut, t.d0.lines.piData, t.d0.tickStep)) = some (true, true, .e) := by
  decide

/-- R177, its example. -/
theorem test_tickE :
    after (exec .tickE (session .via1541 .e fun x => { x with lines := { x.lines with dataSetToOut := true } }))
      (fun t => (t.d0.out.pack, t.d0.tickStep)) = some (0x01, .f) := by
  decide

/-- V-L18, tick 1. -/
theorem test_tickF :
    after (exec .tickF (session .via1541 .f fun x => { x with env := { x.env with led := [true] } })) (fun t =>
      (t.d0.outputLED, t.d0.session.ledPrev, t.trace)) = some (true, true, [.setACTLed .drive0 true]) := by
  decide

/-- V-L19, tick 2: the half period ends. -/
theorem test_tickG :
    after (exec .tickG (session .via1541 .g fun x =>
      { x with
        session := { x.session with headPrev := 6, soundRemaining := 5, soundPhase := 1 }
        env := { x.env with head := [6] } })) (fun t =>
      (t.d0.outputSound, t.d0.session.soundRemaining, t.d0.session.soundPhase)) = some (true, 4, 0) := by
  decide

/-- V-L20. -/
theorem test_tickG_dma :
    after (exec .tickG
      { session .via1541 .g fun x =>
          { x with session := { x.session with headPrev := 5 }, env := { x.env with head := [6] } } with
        cfg := { Config.atReset with soundViaDMA := true } }) (fun t =>
      (t.d0.outputSound, t.d0.session.headPrev, t.trace)) = some (false, 6, [.headSoundStart .drive0]) := by
  decide

/-- V-L15 and V-L30, step h: one direct request is taken, the lowest, and a mount request stays latched. -/
theorem test_tickH :
    after (exec .tickH (session .via1541 .h fun x => { x with latches := { x.latches with reqDirectMask := 6 } }))
        (fun t => (t.d0.session.pendSwap, t.d0.latches.reqDirectMask, t.d0.tickStep)) = some (.direct 1, 0, .i) ∧
      after (exec .tickH (session .via1541 .h fun x => { x with latches := { x.latches with reqMount := some 7 } }))
        (fun t => (t.d0.session.pendUnmount, t.d0.latches.reqMount)) = some (true, some 7) := by
  decide

/-- R151, D31, P5: step h polls a fresh sample, and a sample that is polled already not again. -/
theorem test_tickH_polls_once :
    let s (polled : Bool) := session .via1541 .h fun x =>
      { x with rawSample := 0x3DF, samplePolled := polled, buttons := [⟨true, 2, 0, 0, false, false⟩] }
    after (exec .tickH (s false)) (fun t => (t.d0.buttons, t.d0.samplePolled)) =
        some ([⟨true, 3, 7, 1, true, true⟩], true) ∧
      after (exec .tickH (s true)) (fun t => (t.d0.buttons, t.d0.samplePolled)) =
        some ([⟨true, 2, 0, 0, false, false⟩], true) := by
  decide

/-- V-L8. -/
theorem test_tickI_reset :
    after (exec .tickI (session .via1541 .i fun x =>
      { x with
        lines := { x.lines with resetting := true }
        session := { x.session with
          resetCount := 10, pendExit := true, pendAutoload := true, countdownActive := true, exitCountdown := 1 } }))
      (fun t => (t.d0.session.exitReason, t.d0.session.resetCount, t.d0.session.exitCountdown, t.trace)) =
    some (.reset, 11, 0, [.exit .drive0 .reset]) := by
  decide

/-- V-L11. -/
theorem test_tickI_cd :
    after (exec .tickI (session .via1541 .i fun x =>
      { x with session := { x.session with countdownActive := true, exitCountdown := 1, pendUnmount := true } }))
      (fun t => (t.d0.session.exitReason, t.d0.phase)) = some (.cd, .idle) := by
  decide

/-- V-L24: the elapsed time wraps. -/
theorem test_tickJ_lost :
    after (exec .tickJ (session .via1541 .j fun x =>
      { x with session := { x.session with before := 0xFFFFFFFF }, env := { x.env with now := [1] } })) (fun t =>
      (t.trace, t.d0.tickStep)) = some ([.log .drive0 .lostCycle], .jx) := by
  decide

/-- V-L22: spins until the answer 101. -/
theorem test_tickJ_spins :
    after (exec .tickJ (session .via1541 .j fun x =>
      { x with session := { x.session with before := 100 }, env := { x.env with now := [100, 100, 101, 102] } }))
      (fun t => (t.trace, t.d0.env.now)) = some ([], [102]) := by
  decide

/-- R184, its example. -/
theorem test_tickJX :
    after (exec .tickJX (session .via1541 .jx fun x =>
      { x with
        session := { x.session with refreshAfter := false }
        lines := { x.lines with dataSetToOut := true }
        env := { x.env with gpio := [0x1F] } })) (fun t => (t.d0.out.pack, t.trace.take 2)) =
    some (0x01, [.gpioDrive .drive0 ⟨true, false, false, false, false⟩, .gpioRead .drive0 0x1F]) := by
  decide

/-- V-L16, step k: an image of the other type is not inserted. -/
theorem test_tickK_otherType :
    after (exec .tickK (session .via1541 .k fun x =>
      { x with
        caddy := ⟨[image 100 false, image 101 true], 0⟩, session := { x.session with pendSwap := .next } })) (fun t =>
      (t.d0.caddy.current, t.d0.driveImage.map fun i => i.info.hash, t.d0.session.pendSwap)) =
    some (0, some 100, .none) := by
  decide

/-- V-L15, step k: a quirky image forces the option false. -/
theorem test_tickK_quirk :
    after (exec .tickK (session .via1541 .k fun x =>
      { x with
        caddy := ⟨[image 100 false, image 0 false], 0⟩, session := { x.session with pendSwap := .direct 1 } }))
      (fun t => (t.d0.caddy.current, t.d0.session.refreshAfter)) = some (1, false) := by
  decide

/-! ## The interface -/

/-- The word placed by `withFetchWord` runs next, the boot's own move after it. -/
theorem test_withFetchWord :
    after (step (State.reset.withFetchWord 16 0x0045)) (fun t => (t.d0.result, t.agenda.length)) =
    some (.count 0, 1) := by
  decide

theorem test_decodeTableWord : decodeTableWord 16 0x0342 = some (.selectImage 3) := by decide

/-! ## States that meet the hypotheses of the statements, clause by clause -/

/-- Drive 0 outside a session, changed by `f`, in the split-lines configuration that the platform cannot support. -/
def unsupported (s : State) : State :=
  { s with cfg := { s.cfg with splitIECLines := true, platformSupportsSplit := false } }

/-- The drive's report of R116 made. -/
def reported (s : State) : State :=
  s.mod .drive0 fun x => { x with notImplReported := true }

/-- Between `BEGIN_EMULATING` and `EMULATE_ENTER`. -/
def begun : State :=
  session .via1541 .a fun x => { x with phase := .idle, session := { x.session with inLoop := false } }

/-- Between the exit decision and `EMULATE_EXIT`. -/
def ended : State :=
  session .via1541 .a fun x => { x with phase := .idle, session := { x.session with exitReason := .reset } }

/-- `s` with one move of the loop of drive 0 to come. -/
def advancing (s : State) : State := { s with agenda := [.advance .drive0] }

/-- A session's record meets the sequencer's invariant, whatever the option is. -/
theorem session_ok (k : ChipKind) (t : TickStep) (r : Bool) :
    SessionOk (session k t fun x => { x with session := { x.session with refreshAfter := r } }).self := by
  cases k <;> cases t <;> cases r <;> constructor <;> decide

theorem witness_EncodeDecodeRoundTrip : decode 0x0342 = .ok (.selectImage 3) := by decide

/-- The words at the ends of the ranges of R94. -/
theorem witness_ReservedWordsRefused :
    decode 0xFF09 = .error .selector ∧ decode 0x0101 = .error .operand ∧ decode 0xFF5B = .error .operand ∧
      decode 0x0208 = .error .operand ∧ decode 0xFF40 = .error .operand ∧ decode 0x0420 = .error .operand ∧
      decode 0x0320 = .error .outcomeCode ∧ decode 0x0042 = .ok (.selectImage 0) := by
  decide

theorem witness_ReservedWordsRefused_issued :
    (issueNext (start fun x => x) 0x0009).agenda = [.issue .drive0 0x0009 ⟨0, false⟩ 11] ∧
      decode 0x0009 = .error .selector := by
  decide

theorem witness_StepRunsDecodedInstruction :
    (issueNext (start fun x => x) 0x0045).agenda = [.issue .drive0 0x0045 ⟨0, false⟩ 11] ∧
      decode 0x0045 = .ok .getCount ∧ decode (wordOfBits 16 0x0045) = .ok .getCount := by
  decide

theorem witness_StepRunsDecodedInstruction_advance :
    let s := advancing (session .via1541 .k fun x => x)
    let u := advancing (session .via1541 .k fun x => { x with phase := .fastboot })
    (s.agenda = [.advance .drive0] ∧ s.present .drive0 = true ∧ s.d0.todo = [] ∧ s.d0.mode.emulating = true ∧
      s.d0.phase = .realtime) ∧
      (u.agenda = [.advance .drive0] ∧ u.present .drive0 = true ∧ u.d0.todo = [] ∧ u.d0.mode.emulating = true ∧
        u.d0.phase = .fastboot) := by
  decide

theorem witness_RequestSetsLatch :
    let s : State := { start fun x => x with agenda := [.request .drive0 (.direct 0x401)] }
    s.agenda = [.request .drive0 (.direct 0x401)] ∧ s.present .drive0 = true ∧
      after (step s) (fun t => t.d0.latches.reqDirectMask) = some 1 := by
  decide

theorem witness_SensePolarityAndGate :
    Config.atReset.invertIECInputs = false ∧ { Config.atReset with invertIECInputs := true }.invertIECInputs = true := by
  decide

theorem witness_ReadBrowseResult :
    let s := start fun x => x
    let u : State := { shared true false 1 with cur := .drive1 }
    (s.ready ∧ s.self.mode = .iecCommands ∧ (s.cfg.splitIECLines && !s.cfg.platformSupportsSplit) = false ∧
      s.readEligible s.cur = true) ∧
      (u.ready ∧ u.self.mode = .iecCommands ∧ (u.cfg.splitIECLines && !u.cfg.platformSupportsSplit) = false ∧
        u.readEligible u.cur = false) := by
  decide

/-- Each of the five pin operations, before and after the report. -/
theorem witness_UnsupportedSplitIsNoOp :
    let a := unsupported (start fun x => x)
    let b := unsupported (session .via1541 .b fun x => x)
    let c := unsupported (session .cia1581 .b fun x => x)
    (a.cfg.splitIECLines = true ∧ a.cfg.platformSupportsSplit = false) ∧
      (a.ready ∧ a.self.mode = .iecCommands ∧ a.self.chipKind = .via1541 ∧ a.self.notImplReported = false) ∧
      (b.ready ∧ b.self.mode = .emulating1541 ∧ b.self.phase = .realtime ∧ b.self.chipKind = .via1541) ∧
      (c.ready ∧ c.self.mode = .emulating1581 ∧ c.self.phase = .realtime ∧ c.self.chipKind = .cia1581) ∧
      (reported a).self.notImplReported = true ∧ (reported b).self.notImplReported = true ∧
      (reported c).self.notImplReported = true := by
  decide

theorem witness_ReadEmu1541Result :
    let s := session .via1541 .b fun x => x
    s.ready ∧ s.self.mode = .emulating1541 ∧ s.self.phase = .realtime ∧ s.self.chipKind = .via1541 ∧
      (s.cfg.splitIECLines && !s.cfg.platformSupportsSplit) = false ∧ s.readEligible s.cur = true := by
  decide

/-- The other branch of the sample: a session that is not read-eligible. -/
theorem witness_ReadEmu1541Result_held :
    let s : State :=
      { session .via1541 .b fun x => x with
        dualDrive := 2
        cfg := { Config.atReset with dualDrive := true, sharedGPIO := true, primary := .drive1 } }
    s.ready ∧ s.self.mode = .emulating1541 ∧ s.self.phase = .realtime ∧ s.self.chipKind = .via1541 ∧
      (s.cfg.splitIECLines && !s.cfg.platformSupportsSplit) = false ∧ s.readEligible s.cur = false := by
  decide

theorem witness_ReadEmu1581Result :
    let s := session .cia1581 .b fun x => x
    s.ready ∧ s.self.mode = .emulating1581 ∧ s.self.phase = .realtime ∧ s.self.chipKind = .cia1581 ∧
      (s.cfg.splitIECLines && !s.cfg.platformSupportsSplit) = false ∧ s.readEligible s.cur = true := by
  decide

theorem witness_SenseOperationsNever :
    completes (exec .readBrowse (start fun x => x)) ∧
      completes (exec .readEmu1541 (session .via1541 .b fun x => x)) ∧
      completes (exec .readEmu1581 (session .cia1581 .b fun x => x)) :=
  ⟨⟨_, rfl⟩, ⟨_, rfl⟩,
    ⟨_, rfl⟩⟩

theorem witness_LoopbackAfterBusOperations :
    completes (exec (.portBOut 0x10) (start fun x => x)) ∧
      (completes (exec .readEmu1541 (session .via1541 .b fun x => x)) ∧
        (Config.atReset.splitIECLines && !Config.atReset.platformSupportsSplit) = false) ∧
      (completes (exec .readEmu1541 (unsupported (session .via1541 .b fun x => x))) ∧
        LoopbackOk (unsupported (session .via1541 .b fun x => x)).self) :=
  ⟨⟨_, rfl⟩, ⟨⟨_, rfl⟩, by decide⟩,
    ⟨_, rfl⟩, by decide, by decide⟩

theorem witness_PortBOutResult : (start fun x => x).ready ∧ (session .cia1581 .d fun x => x).ready := by decide

theorem witness_SetSrqOutResult : (start fun x => x).ready := by decide

theorem witness_RefreshPresentsVector :
    let s := session .via1541 .e fun x => x
    let u := session .cia1581 .e fun x => x
    (s.cfg.splitIECLines && !s.cfg.platformSupportsSplit) = false ∧ s.ready ∧ s.self.chipKind = .via1541 ∧
      (u.cfg.splitIECLines && !u.cfg.platformSupportsSplit) = false ∧ u.ready ∧ u.self.chipKind = .cia1581 := by
  decide

theorem witness_BusResetResult :
    let s := start fun x => x
    let u := start fun x => { x with chipKind := .cia1581 }
    (s.ready ∧ s.self.chipKind = .via1541) ∧
      (u.ready ∧ u.self.chipKind = .cia1581 ∧ (u.cfg.splitIECLines && !u.cfg.platformSupportsSplit) = false) ∧
      ((unsupported u).ready ∧ (unsupported u).self.chipKind = .cia1581 ∧
        ((unsupported u).cfg.splitIECLines && !(unsupported u).cfg.platformSupportsSplit) = true ∧
        (unsupported u).self.notImplReported = false ∧ (reported (unsupported u)).self.notImplReported = true) := by
  decide

theorem witness_BusResetIdempotent : completes (exec .busReset (start fun x => x)) :=
  ⟨_, rfl⟩

theorem witness_PinsChangeOnlyInRefresh :
    completes (exec .tickA (session .via1541 .a fun x => x)) ∧
      Instr.tickA ∉
        [Instr.refresh1541, .refresh1581, .busReset, .emulateEnter, .tick, .tickE, .tickJX, .fastpathEvent .fpReset] :=
  ⟨⟨_, rfl⟩, by decide⟩

/-- A move of the loop before its session entry, one at step f, and a request. -/
theorem witness_PinsChangeOnlyInRefresh_moves :
    let s := advancing (begun.mod .drive0 fun x => { x with todo := [.release, .enterSession] })
    let u := advancing (session .via1541 .f fun x => x)
    let v : State := { start fun x => x with agenda := [.request .drive0 .exit] }
    (completes (step { s with lock := .held .drive0 }) ∧ s.d0.todo.head? ≠ some .enterSession ∧ s.d0.todo ≠ []) ∧
      (completes (step u) ∧ u.d0.todo.head? ≠ some .enterSession ∧ u.d0.tickStep ∉ [TickStep.e, .jx]) ∧
      completes (step v) :=
  ⟨⟨⟨_, rfl⟩, by decide, by decide⟩, ⟨⟨_, rfl⟩, by decide, by decide⟩, ⟨_, rfl⟩⟩

/-- Each of the four cases of a poll, at the threshold and at the repeat threshold. -/
theorem witness_PollButtonsResult :
    let s := start fun x => { x with rawSample := 0x3DF, buttons :=
      [⟨true, 2, 0, 0, false, false⟩, ⟨true, 6, 7, 1, true, false⟩] }
    let u := start fun x => { x with rawSample := 0x39F, buttons :=
      [⟨true, 5, 7, 1, true, false⟩, ⟨true, 6, 7, 1, true, false⟩] }
    (s.ready ∧ s.readEligible s.cur = true ∧ s.self.samplePolled = false) ∧
      (u.ready ∧ u.readEligible u.cur = true ∧ u.self.samplePolled = false) ∧ s.cfg.pinButtons[0]? = some 0x20 ∧ s.cfg.pinButtons[1]? = some 0x40 ∧
      s.cfg.pinButtons.length ≤ 5 ∧
      (s.self.buttons[1]? = some ⟨true, 6, 7, 1, true, false⟩ ∧ s.self.rawSample &&& 0x40 ≠ 0) ∧
      (s.self.buttons[0]? = some ⟨true, 2, 0, 0, false, false⟩ ∧ s.self.rawSample &&& 0x20 = 0 ∧
        2 + 1 = s.cfg.debounceThreshold) ∧
      (u.self.buttons[1]? = some ⟨true, 6, 7, 1, true, false⟩ ∧ u.self.rawSample &&& 0x40 = 0 ∧
        6 + 1 ≠ u.cfg.debounceThreshold) ∧
      (u.self.buttons[0]? = some ⟨true, 5, 7, 1, true, false⟩ ∧ u.self.rawSample &&& 0x20 = 0 ∧
        5 + 1 ≠ u.cfg.debounceThreshold ∧ 5 + 1 ≠ 7) := by
  decide

theorem intervals_atReset : IntervalsPositive Config.atReset := by
  intro k
  match k with
  | 0 => decide
  | 1 => decide
  | 2 => decide
  | k + 3 =>
    have h : repeatInterval Config.atReset (k + 3) = 2 := by
      simp [repeatInterval, Config.atReset]
    omega

theorem witness_DebounceRunLength : 1 ≤ Config.atReset.debounceThreshold := by decide

theorem witness_RepeatSchedule :
    1 ≤ Config.atReset.debounceThreshold ∧ IntervalsPositive Config.atReset :=
  ⟨by decide, intervals_atReset⟩

theorem witness_BeginEmulatingResult :
    let s := start fun x => x
    let u := start fun x => { x with caddy := ⟨[image 100 false, image 3 true], 1⟩ }
    (s.ready ∧ s.self.mode = .iecCommands ∧ s.self.phase = .idle ∧ s.self.caddy.images = []) ∧
      (u.ready ∧ u.self.mode = .iecCommands ∧ u.self.phase = .idle ∧
        u.self.caddy.images[u.self.caddy.current]? = some (image 3 true)) := by
  decide

theorem witness_EmulateEnterResult :
    begun.ready ∧ 3 ≤ begun.unbroken ∧ begun.lock = .free ∧ begun.self.mode.emulating = true ∧
      begun.self.phase = .idle ∧ begun.self.session.inLoop = false := by
  decide

/-- Under `CIA1581`, where the reset refreshes, and where the platform cannot; and without a fast boot. -/
theorem witness_EmulateEnterResult_cia1581 :
    let s := session .cia1581 .a fun x => { x with phase := .idle, session := { x.session with inLoop := false } }
    let u := unsupported s
    let v : State := { s with cfg := { s.cfg with fastBootCycles := 0 } }
    let meets (s : State) : Prop :=
      s.ready ∧ 3 ≤ s.unbroken ∧ s.lock = .free ∧ s.self.mode.emulating = true ∧ s.self.phase = .idle ∧
        s.self.session.inLoop = false
    (meets s ∧ s.self.chipKind = .cia1581 ∧ (s.cfg.splitIECLines && !s.cfg.platformSupportsSplit) = false) ∧
      (meets u ∧ u.self.chipKind = .cia1581 ∧ (u.cfg.splitIECLines && !u.cfg.platformSupportsSplit) = true ∧
        u.self.notImplReported = false) ∧
      (meets (reported u) ∧ (reported u).self.notImplReported = true) ∧
      (meets v ∧ ¬0 < v.cfg.fastBootCycles) := by
  decide

theorem witness_EmulateExitResult :
    ended.ready ∧ 3 ≤ ended.unbroken ∧ ended.lock = .free ∧ ended.self.mode.emulating = true ∧ ended.self.phase = .idle ∧
      ended.self.session.exitReason ≠ .unknown ∧ ended.self.session.inLoop = true := by
  decide

theorem witness_FastbootStepResult :
    let s := session .via1541 .a fun x => { x with phase := .fastboot }
    s.ready ∧ s.self.mode.emulating = true ∧ s.self.phase = .fastboot := by
  decide

/-- A full caddy, and an image that does not open. -/
theorem witness_ImageSelectedMountFails :
    let s := start fun x => { x with caddy := ⟨List.replicate 10 (image 100 false), 0⟩ }
    let u := start fun x => { x with env := { x.env with opened := [none] } }
    (s.ready ∧ s.self.mode = .iecCommands ∧ s.self.caddy.images.length = s.cfg.maxImages) ∧
      (u.ready ∧ u.self.mode = .iecCommands ∧ u.openAnswer u.cur u.side.file u.side.readOnly = none) := by
  decide

theorem witness_ImageSelectedBegins :
    let s := start fun x => { x with
      caddy := ⟨List.replicate 9 (image 100 false), 8⟩, env := { x.env with opened := [some ⟨"i", 3, true⟩] } }
    s.ready ∧ s.self.mode = .iecCommands ∧ CaddyOk s.cfg s.self.caddy ∧ s.self.caddy.images.length ≠ s.cfg.maxImages ∧
      s.openAnswer s.cur s.side.file s.side.readOnly = some (image 3 true) :=
  ⟨by decide, by decide, ⟨by decide, .inr (by decide)⟩, by decide, by decide⟩

theorem witness_FastpathStateChangeAndReset :
    let s := start fun x => x
    let u := start fun x => { x with latches := { x.latches with reqDeviceID := some .dev11 } }
    (s.ready ∧ s.self.mode = .iecCommands ∧ s.self.latches.reqDeviceID = none) ∧
      (u.ready ∧ u.self.mode = .iecCommands ∧ u.self.latches.reqDeviceID = some .dev11) := by
  decide

theorem witness_ShutdownResult :
    let s := start fun x => { x with latches := { x.latches with reqShutdown := true } }
    s.ready ∧ s.self.mode = .iecCommands ∧ s.self.latches.reqShutdown = true ∧ s.self.session.inLoop = false := by
  decide

/-- In place; out of place (U1, its examples); the terminal mode; lock steps left; an absent instance. -/
theorem witness_OperationsRunExactlyInPlace :
    let s := start fun x => x
    let u := session .via1541 .d fun x => x
    let v := advancing (start fun x => { x with mode := .emulationShutdown })
    let w := begun.mod .drive0 fun x => { x with todo := emulateEnterSteps }
    (s.ready ∧ precondition .readBrowse s ∧ ¬precondition .readEmu1541 s) ∧
      (u.ready ∧ precondition .tickD u ∧ ¬precondition .tickE u ∧ ¬precondition .nextDisk u) ∧
      (v.present v.cur = true ∧ v.self.mode = .emulationShutdown ∧ v.agenda = [.advance v.cur]) ∧
      (w.present w.cur = true ∧ w.self.mode ≠ .emulationShutdown ∧ w.self.todo ≠ []) ∧
      ({ s with cur := .drive1 } : State).present .drive1 = false := by
  unfold precondition
  decide

/-- `MultiStepOperationsAreInterruptible`: each operation, ready to be issued. -/
theorem witness_MultiStepOperationsAreInterruptible :
    let s := start fun x => x
    let u := session .via1541 .a fun x => { x with session := { x.session with refreshAfter := true } }
    (s.ready ∧ s.lock = .free ∧ s.self.session.inLoop = false) ∧
      (u.ready ∧ u.lock = .free ∧ u.self.session.inLoop = true) ∧
      (begun.ready ∧ begun.lock = .free ∧ begun.self.mode.emulating = true ∧ begun.self.phase = .idle ∧
        begun.self.session.inLoop = false) ∧
      (ended.ready ∧ ended.lock = .free ∧ ended.self.mode.emulating = true ∧ ended.self.phase = .idle ∧
        ended.self.session.exitReason ≠ .unknown ∧ ended.self.session.inLoop = true) ∧
      (SessionOk u.self ∧ u.self.phase = .realtime ∧ u.self.tickStep = .a) ∧
      (interrupted s).unbroken = 0 ∧ (interrupted u).ready :=
  ⟨by decide, by decide, by decide, by decide, ⟨session_ok _ _ _, by decide, by decide⟩, by decide, by decide⟩

/-- Each row of the table, and the loop's own move that leaves a session. -/
theorem witness_ModeTransitionTable_step :
    let s := advancing (ended.mod .drive0 fun x =>
      { x with todo := [.leaveSession], session := { x.session with inLoop := false } })
    LoopInv { s with dualDrive := 0 } ∧ after (step s) (fun t => t.d0.mode) = some .iecCommands := by
  refine ⟨⟨⟨by decide, ?_, ?_⟩, ?_⟩, by decide⟩
  · intro d
    cases d <;>
      simp [advancing, ended, session, start, holdsLock, State.reset, State.powerOn, Drive.powerOn, State.mod,
        State.setDrive]
  · intro d
    cases d <;> constructor <;> first | decide | (unfold legalTodo; decide)
  · intro d
    cases d <;> constructor <;> decide

/-- One transition of each row of the table. -/
theorem witness_ModeTransitionTable :
    after (exec .beginEmulating (start fun x => { x with caddy := ⟨[image 100 false], 0⟩ })) (fun t => t.d0.mode) =
        some .emulating1541 ∧
      after (exec .shutdown (start fun x => { x with latches := { x.latches with reqShutdown := true } }))
        (fun t => t.d0.mode) = some .emulationShutdown ∧
      after (exec .emulateExit ended) (fun t => t.d0.mode) = some .iecCommands := by
  decide

/-! The sub-steps of a tick: the precondition of each, in a session, and each side condition. -/

/-- Ready for the sub-step `t`. -/
def atStep (t : TickStep) (s : State) : Bool :=
  decide s.ready && s.self.mode.emulating && decide (s.self.phase = .realtime) && decide (s.self.tickStep = t)

theorem witness_TickAResult : atStep .a (session .via1541 .a fun x => x) = true := by decide

theorem witness_TickBResult (r : Bool) :
    let s := session .via1541 .b fun x => { x with session := { x.session with refreshAfter := r } }
    atStep .b s = true ∧ SessionOk s.self ∧ s.self.session.refreshAfter = r :=
  ⟨by cases r <;> decide, session_ok _ _ _, by cases r <;> decide⟩

theorem witness_TickCResult :
    atStep .c (session .via1541 .c fun x => x) = true ∧ atStep .c (session .cia1581 .c fun x => x) = true := by
  decide

theorem witness_TickDResult : atStep .d (session .via1541 .d fun x => x) = true := by decide

theorem witness_TickEResult (r : Bool) :
    let s := session .cia1581 .e fun x => { x with session := { x.session with refreshAfter := r } }
    atStep .e s = true ∧ SessionOk s.self ∧ s.self.session.refreshAfter = r :=
  ⟨by cases r <;> decide, session_ok _ _ _, by cases r <;> decide⟩

theorem witness_TickFResult : atStep .f (session .via1541 .f fun x => x) = true := by decide

/-- With DMA; without it, at rest, and at the last tick of the wave. -/
theorem witness_TickGResult :
    let s := session .via1541 .g fun x => { x with env := { x.env with head := [0] } }
    let u : State := { s with cfg := { Config.atReset with soundViaDMA := true } }
    let v := session .via1541 .g fun x =>
      { x with session := { x.session with soundRemaining := 1 }, env := { x.env with head := [0] } }
    (atStep .g s = true ∧ s.cfg.soundViaDMA = false ∧ s.headAnswer s.cur = s.self.session.headPrev ∧
      s.self.session.soundRemaining = 0) ∧
      (atStep .g u = true ∧ u.cfg.soundViaDMA = true) ∧
      (atStep .g v = true ∧ v.cfg.soundViaDMA = false ∧ v.headAnswer v.cur = v.self.session.headPrev ∧
        v.self.session.soundRemaining = 1) := by
  decide

theorem witness_TickHResult :
    atStep .h (session .via1541 .h fun x => x) = true ∧
      atStep .h (session .via1541 .h fun x => { x with samplePolled := true }) = true := by
  decide

/-- The reset count at the threshold and past it, the countdown at its last tick and before it. -/
theorem witness_TickIResult :
    let s (n : Nat) (e a c u : Bool) (left : Nat) := session .via1541 .i fun x =>
      { x with
        lines := { x.lines with resetting := true }
        session := { x.session with
          resetCount := n, pendExit := e, pendAutoload := a, countdownActive := c, exitCountdown := left
          pendUnmount := u } }
    (atStep .i (s 10 false false false false 0) = true ∧ 10 + 1 > Config.atReset.resetThreshold) ∧
      (atStep .i (s 9 true false false false 0) = true ∧ ¬9 + 1 > Config.atReset.resetThreshold) ∧
      atStep .i (s 9 false true false false 0) = true ∧ atStep .i (s 9 false false true false 1) = true ∧
      atStep .i (s 9 false false true true 2) = true ∧ atStep .i (s 9 false false true false 2) = true := by
  decide

theorem witness_TickJResult : atStep .j (session .via1541 .j fun x => x) = true := by decide

theorem witness_TickJXResult (r : Bool) :
    let s := session .via1541 .jx fun x => { x with session := { x.session with refreshAfter := r } }
    atStep .jx s = true ∧ SessionOk s.self ∧ s.self.session.refreshAfter = r :=
  ⟨by cases r <;> decide, session_ok _ _ _, by cases r <;> decide⟩

/-- One image; no request; the next image of the same type, of the other type; an index past the end. -/
theorem witness_TickKResult :
    let s (b : Bool) (w : Swap) := session .via1541 .k fun x =>
      { x with caddy := ⟨[image 100 false, image 101 b], 0⟩, session := { x.session with pendSwap := w } }
    atStep .k (session .via1541 .k fun x => x) = true ∧ atStep .k (s false .next) = true ∧
      atStep .k (s true .next) = true ∧ atStep .k (s false .none) = true ∧ atStep .k (s false (.direct 2)) = true ∧
      ∀ b w, CaddyOk (s b w).cfg (s b w).self.caddy :=
  ⟨by decide, by decide, by decide, by decide, by decide, fun _ _ =>
    ⟨show 2 ≤ 10 by decide, .inr (show 0 < 2 by decide)⟩⟩

/-- A tick that goes on, and one that records an exit at step i. -/
theorem witness_TickIsItsSubsteps :
    let s := session .via1541 .a fun x => { x with session := { x.session with refreshAfter := true } }
    let go := session .via1541 .a fun x => { x with env := tickAnswers 0x3FF x.env }
    let out := session .via1541 .a fun x =>
      { x with session := { x.session with resetCount := 10 }, env := tickAnswers 0x0F x.env }
    (atStep .a s = true ∧ SessionOk s.self ∧ 11 ≤ s.unbroken) ∧ (interrupted s).unbroken ≤ 8 ∧
      after (execAll tickInstrsToI go) (fun t => t.d0.session.exitReason) = some .unknown ∧
      after (execAll tickInstrsToI out) (fun t => t.d0.session.exitReason) = some .reset :=
  ⟨⟨by decide, session_ok _ _ _, by decide⟩, by decide, by decide, by decide⟩

theorem witness_ArbiterCountsInstance :
    let s := start fun x => x
    let u := session .via1541 .a fun x => x
    (s.ready ∧ 2 ≤ s.unbroken ∧ s.lock = .free ∧ s.self.session.inLoop = false) ∧
      (u.ready ∧ 2 ≤ u.unbroken ∧ u.lock = .free ∧ u.self.session.inLoop = true) := by
  decide

theorem witness_HeldLockMakesOperationsWait :
    let held (s : State) : State := { s with lock := .held .drive1 }
    ((held begun).ready ∧ (held begun).lock = .held .drive1 ∧ begun.self.session.inLoop = false ∧
      begun.self.mode.emulating = true ∧ begun.self.phase = .idle) ∧
      ((held ended).ready ∧ ended.self.session.inLoop = true ∧ ended.self.mode.emulating = true ∧
        ended.self.phase = .idle ∧ ended.self.session.exitReason ≠ .unknown) := by
  decide

/-- The three steps, run (C13). -/
theorem witness_MultiStepOperationsAreInterruptible_loop :
    let s : State := { begun with agenda := [.advance .drive0, .advance .drive0, .advance .drive0] }
    s.present .drive0 = true ∧ (s.drive .drive0).todo = [] ∧ s.lock = .free ∧
      (s.drive .drive0).mode.emulating = true ∧ (s.drive .drive0).phase = .idle ∧
      (s.drive .drive0).session.inLoop = false ∧ s.agenda = [.advance .drive0, .advance .drive0, .advance .drive0] ∧
      after (step s) (fun t => (t.lock, t.d0.todo)) = some (.held .drive0, [.countUp, .release, .enterSession]) ∧
      after (Host.Core.run Sys2Proof.core 3 s) (fun t => (State.lock t, State.dualDrive t)) = some (.free, 2) := by
  decide

/-- Nobody, one of the two, and both in the loop. -/
theorem witness_ReadEligibilityIsExclusive :
    let ok (s : State) : Prop := s.dualDrive = loopCount s ∧ s.cfg.dualDrive = true ∧ s.cfg.sharedGPIO = true
    ok (shared false false 0) ∧ ok (shared true false 1) ∧ ok (shared false true 1) ∧ ok (shared true true 2) := by
  decide

theorem witness_CaddyInsertResult :
    let s := start fun x => { x with caddy := ⟨List.replicate 10 (image 100 false), 0⟩ }
    let u := start fun x => { x with
      caddy := ⟨List.replicate 9 (image 100 false), 0⟩, env := { x.env with opened := [some ⟨"i", 3, true⟩] } }
    let v := start fun x => { x with env := { x.env with opened := [none] } }
    (s.ready ∧ s.self.mode = .iecCommands ∧ s.self.caddy.images.length = s.cfg.maxImages) ∧
      (u.ready ∧ u.self.mode = .iecCommands ∧ u.self.caddy.images.length ≠ u.cfg.maxImages ∧
        u.openAnswer u.cur u.side.file true = some { image 3 true with readOnly := true }) ∧
      (v.ready ∧ v.self.mode = .iecCommands ∧ v.self.caddy.images.length ≠ v.cfg.maxImages ∧
        v.openAnswer v.cur v.side.file true = none) := by
  decide

/-- The last index and the first one past it, outside a session and at step k; and the step before k. -/
theorem witness_SelectImageResult :
    let s := three 1
    let u := session .via1541 .k fun x => x
    let v := session .via1541 .jx fun x => x
    (v.ready ∧ v.self.mode ≠ .iecCommands ∧ v.self.tickStep ≠ .k) ∧
    (s.ready ∧ s.self.mode = .iecCommands ∧ (2 : Byte).toNat < s.self.caddy.images.length ∧
      s.self.caddy.images.length ≤ (3 : Byte).toNat) ∧
      (u.ready ∧ u.self.mode.emulating = true ∧ u.self.phase = .realtime ∧ u.self.tickStep = .k ∧
        (0 : Byte).toNat < u.self.caddy.images.length ∧ u.self.caddy.images.length ≤ (1 : Byte).toNat) := by
  decide

theorem witness_SelectFirstNextPrevResult :
    let s := three 2
    let u := start fun x => x
    let v := session .via1541 .k fun x => x
    (s.ready ∧ s.self.mode = .iecCommands ∧ s.self.caddy.images.length ≠ 0) ∧
      (u.ready ∧ u.self.mode = .iecCommands ∧ u.self.caddy.images.length = 0) ∧
      (v.ready ∧ v.self.mode.emulating = true ∧ v.self.phase = .realtime ∧ v.self.tickStep = .k) := by
  decide

theorem witness_GetCountResult : (three 0).ready ∧ CaddyOk (three 0).cfg (three 0).self.caddy :=
  ⟨by decide, by decide, .inr (by decide)⟩

/-- An instance in its session, the arbiter's counter 1: a state that meets the invariants, and takes a step. -/
theorem witness_StepKeepsLoopInvariant :
    let s := advancing (session .via1541 .a fun x => { x with session := { x.session with refreshAfter := true } })
    LoopInv s ∧ completes (step s) := by
  refine ⟨⟨⟨by decide, ?_, ?_⟩, ?_⟩, ⟨_, rfl⟩⟩
  · intro d
    cases d <;> simp [advancing, session, start, holdsLock, State.reset, State.powerOn, Drive.powerOn]
  · intro d
    cases d <;> constructor <;> first | decide | (unfold legalTodo; decide)
  · intro d
    cases d
    · exact session_ok .via1541 .a true
    · constructor <;> decide

theorem witness_StepKeepsCaddyInvariant :
    let s := advancing (session .via1541 .a fun x => x)
    CaddyInv s ∧ completes (step s) := by
  refine ⟨⟨?_, ?_⟩, ⟨_, rfl⟩⟩
  · intro d
    cases d
    · exact ⟨by decide, .inr (by decide)⟩
    · exact ⟨by decide, .inl (by decide)⟩
  · intro d
    cases d
    · exact fun _ => ⟨image 100 false, by decide, by decide⟩
    · exact fun h => absurd h (by decide)

/-- A pressed button and four that are not. -/
theorem witness_StepKeepsDebounceInvariant :
    let s := advancing (session .via1541 .h fun x =>
      { x with buttons := ⟨true, 3, 7, 1, true, true⟩ :: List.replicate 4 Button.powerOn })
    1 ≤ s.cfg.debounceThreshold ∧ IntervalsPositive s.cfg ∧ (∀ d, DebounceOk s.cfg (s.drive d)) ∧
      completes (step s) := by
  refine ⟨by decide, intervals_atReset, ?_, ⟨_, rfl⟩⟩
  have off : ButtonOk Config.atReset Button.powerOn := by constructor <;> decide
  intro d
  cases d
  · refine ⟨by decide, ?_⟩
    intro b hb
    simp only [advancing, session, start, State.drive] at hb
    rcases List.mem_cons.1 hb with rfl | hb
    · constructor <;> decide
    · rw [List.eq_of_mem_replicate hb]
      exact off
  · refine ⟨by decide, ?_⟩
    intro b hb
    obtain ⟨_, _, rfl⟩ := List.mem_map.1 hb
    exact off

/-- Both polarities of the inputs: the masks are one-hot and distinct. -/
theorem witness_PowerOnValues :
    let c := { Config.atReset with invertIECInputs := true }
    (Config.atReset.pinsOneHot = true ∧ Config.atReset.pinsDistinct = true) ∧
      c.pinsOneHot = true ∧ c.pinsDistinct = true := by
  decide

theorem witness_PowerOnMeetsInvariants : 1 ≤ Config.atReset.debounceThreshold := by decide

theorem witness_OtherInstanceUntouched :
    completes (exec .emulateEnter begun) ∧ completes (step (advancing begun)) ∧
      (advancing begun).agenda = [.advance .drive0] :=
  ⟨⟨_, rfl⟩, ⟨_, rfl⟩, rfl⟩

end Sys2Proof.Tests
end

-- ==== Noninterference between the instances ====
section
/-! SUPPORT. What an operation or a move of one drive leaves alone (`20_memory.md` R72, `44_arbiter.md` R213): the
other drive's record, the configuration and the agenda. It is weaker than `SameOutside`, which the lock steps break:
they write the lock and the counter. -/

namespace Sys2Proof.Machine

/-- The other drive's record, the configuration and the agenda are as before. -/
structure OtherUntouched (d : DriveId) (s t : State) : Prop where
  other  : t.drive d.other = s.drive d.other
  cfg    : t.cfg = s.cfg
  agenda : t.agenda = s.agenda

/-- The same, and the drive that executes stays the same: what holds of an operation, but not of a move. -/
abbrev KeepsOther (d : DriveId) (s t : State) : Prop :=
  OtherUntouched d s t ∧ t.cur = s.cur

theorem SameOutside.keepsOther {d : DriveId} {s t : State} (h : SameOutside d s t) : KeepsOther d s t :=
  ⟨⟨h.other, h.cfg, h.agenda⟩, h.cur⟩

theorem runSteps_keepsOther (d : DriveId) (n : Nat) (ts : List LockStep) (s : State) :
    KeepsOther d s (runSteps d n ts s) := by
  obtain ⟨other, cfg, cur, _, agenda, _⟩ := runSteps_keeps d n ts s
  exact ⟨⟨other, cfg, agenda⟩, cur⟩

theorem startSteps_keepsOther (ts : List LockStep) (d : DriveId) (s : State) :
    KeepsOther d s (startSteps ts d s) :=
  runSteps_keepsOther _ _ _ _

/-! ## The operations that end with a result -/

theorem insertImage_outside (ro : Bool) (d : DriveId) (s : State) : SameOutside d s (insertImage ro d s) :=
  (caddyInsert_outside _ _ _ _).trans (setResult_outside _ _ _)

theorem selectFirst_outside (d : DriveId) (s : State) : SameOutside d s (selectFirst d s) :=
  (setCaddy_outside _ _ _).trans (setResult_outside _ _ _)

theorem selectImage_outside (index : Byte) (d : DriveId) (s : State) : SameOutside d s (selectImage index d s) :=
  (setCaddy_outside _ _ _).trans (setResult_outside _ _ _)

theorem nextDisk_outside (d : DriveId) (s : State) : SameOutside d s (nextDisk d s) :=
  setCaddy_outside _ _ _

theorem prevDisk_outside (d : DriveId) (s : State) : SameOutside d s (prevDisk d s) :=
  setCaddy_outside _ _ _

theorem getCount_outside (d : DriveId) (s : State) : SameOutside d s (getCount d s) :=
  setResult_outside _ _ _

/-! ## Operations and moves -/

/-- An accepted operation touches the other drive only if its body does. -/
theorem accept_keepsOther {s t : State} {pre : Drive → Bool} {op : DriveId → State → State}
    (body : ∀ d s, KeepsOther d s (op d s)) (h : accept s pre op = .next t) : KeepsOther s.cur s t := by
  obtain ⟨_, _, rfl⟩ := accept_next.1 h
  exact body _ _

theorem accept_keepsOther_of_outside {s t : State} {pre : Drive → Bool} {op : DriveId → State → State}
    (body : ∀ d s, SameOutside d s (op d s)) (h : accept s pre op = .next t) : KeepsOther s.cur s t :=
  accept_keepsOther (fun d s => (body d s).keepsOther) h

theorem exec_keepsOther {i : Instr} {s t : State} (h : exec i s = .next t) : KeepsOther s.cur s t := by
  cases i with
  | busReset => exact accept_keepsOther_of_outside busReset_outside h
  | readBrowse => exact accept_keepsOther_of_outside readBrowse_outside h
  | readEmu1541 => exact accept_keepsOther_of_outside readEmu1541_outside h
  | readEmu1581 => exact accept_keepsOther_of_outside readEmu1581_outside h
  | refresh1541 => exact accept_keepsOther_of_outside refresh_outside h
  | refresh1581 => exact accept_keepsOther_of_outside refresh_outside h
  | portBOut status => exact accept_keepsOther_of_outside (portBOut_outside status) h
  | setSrqOut b => exact accept_keepsOther_of_outside (setSrqOut_outside b) h
  | pollButtons => exact accept_keepsOther_of_outside pollButtons_outside h
  | fastpathEvent o => exact accept_keepsOther_of_outside (fastpathEvent_outside o) h
  | beginEmulating => exact accept_keepsOther_of_outside beginEmulating_outside h
  | emulateEnter => exact accept_keepsOther (startSteps_keepsOther _) h
  | fastbootStep => exact accept_keepsOther_of_outside fastbootStep_outside h
  | tick => exact accept_keepsOther_of_outside tick_outside h
  | emulateExit => exact accept_keepsOther (startSteps_keepsOther _) h
  | shutdown => exact accept_keepsOther_of_outside shutdown_outside h
  | ddEnter => exact accept_keepsOther (startSteps_keepsOther _) h
  | ddExit => exact accept_keepsOther (startSteps_keepsOther _) h
  | caddyInsert ro => exact accept_keepsOther_of_outside (insertImage_outside ro) h
  | selectFirst => exact accept_keepsOther_of_outside selectFirst_outside h
  | selectImage n => exact accept_keepsOther_of_outside (selectImage_outside n) h
  | nextDisk => exact accept_keepsOther_of_outside nextDisk_outside h
  | prevDisk => exact accept_keepsOther_of_outside prevDisk_outside h
  | getCount => exact accept_keepsOther_of_outside getCount_outside h
  | tickA => exact accept_keepsOther_of_outside tickA_outside h
  | tickB => exact accept_keepsOther_of_outside tickB_outside h
  | tickC => exact accept_keepsOther_of_outside tickC_outside h
  | tickD => exact accept_keepsOther_of_outside tickD_outside h
  | tickE => exact accept_keepsOther_of_outside tickE_outside h
  | tickF => exact accept_keepsOther_of_outside tickF_outside h
  | tickG => exact accept_keepsOther_of_outside tickG_outside h
  | tickH => exact accept_keepsOther_of_outside tickH_outside h
  | tickI => exact accept_keepsOther_of_outside tickI_outside h
  | tickJ => exact accept_keepsOther_of_outside tickJ_outside h
  | tickJX => exact accept_keepsOther_of_outside tickJX_outside h
  | tickK => exact accept_keepsOther_of_outside tickK_outside h

theorem exec_focus_otherUntouched {i : Instr} {d : DriveId} {side : SideData} {n : Nat} {s t : State}
    (h : exec i (s.focus d side n) = .next t) : OtherUntouched d s t := by
  obtain ⟨⟨other, cfg, agenda⟩, _⟩ := exec_keepsOther h
  exact ⟨by simpa using other, cfg, agenda⟩

theorem issueWord_otherUntouched {d : DriveId} {word : CommandWord} {side : SideData} {n : Nat} {s t : State}
    (h : issueWord d word side n s = .next t) : OtherUntouched d s t := by
  unfold issueWord at h
  split at h
  · exact exec_focus_otherUntouched h
  · cases h

theorem advance_otherUntouched {d : DriveId} {s t : State} (h : advance d s = .next t) : OtherUntouched d s t := by
  have steps : ∀ ts, runSteps d 1 ts s = t → OtherUntouched d s t := by
    rintro ts rfl
    exact (runSteps_keepsOther d 1 ts s).1
  unfold advance at h
  split at h
  · split at h
    · cases h
    · split at h
      · exact steps _ (Host.Outcome.next.inj h)
      · split at h
        · exact exec_focus_otherUntouched h
        · exact steps _ (Host.Outcome.next.inj h)
        · cases h
          exact (SameOutside.refl d s).keepsOther.1
  · cases h

theorem request_otherUntouched {d : DriveId} {r : Request} {s t : State} (h : request d r s = .next t) :
    OtherUntouched d s t := by
  unfold request at h
  split at h
  · cases h
    exact (mod_outside _ _ _).keepsOther.1
  · cases h

theorem runMove_otherUntouched {m : Move} {s t : State} (h : runMove m s = .next t) : OtherUntouched m.drive s t := by
  cases m with
  | issue d word side n => exact issueWord_otherUntouched h
  | advance d => exact advance_otherUntouched h
  | request d r => exact request_otherUntouched h

theorem step_eq_runMove {s : State} {m : Move} {rest : List Move} (h : s.agenda = m :: rest) :
    step s = runMove m { s with agenda := rest } := by
  unfold step runAgenda
  rw [h]

/-- Settles O59: every operation is `accept` of a body that leaves the other drive alone, and every move is an
operation, lock steps or a latch of its own drive. -/
theorem otherInstanceUntouched : Obligations.OtherInstanceUntouched := by
  refine ⟨fun i s t h => ?_, fun s t m rest hm h => ?_⟩
  · obtain ⟨⟨other, cfg, agenda⟩, cur⟩ := exec_keepsOther h
    exact ⟨other, cfg, agenda, cur⟩
  · rw [step_eq_runMove hm] at h
    obtain ⟨other, cfg, agenda⟩ := runMove_otherUntouched h
    exact ⟨by simpa using other, cfg, agenda⟩

end Sys2Proof.Machine
end

-- ==== A tick and its sub-steps ====
section
/-! SUPPORT. A tick as a chain of sub-steps (`43_loop.md` R170). Each sub-step that starts in place and records no exit
leaves the next one in place, so a run of sub-steps is the same whether one `TICK`, the words one by one, or the loop's
own moves take it. -/

namespace Sys2Proof.Machine

/-! ## In place for a sub-step -/

/-- Instance `d` executes, is ready, and stands in a session at sub-step `t`, with no exit recorded. -/
structure AtSubStep (d : DriveId) (t : TickStep) (s : State) : Prop where
  cur   : s.cur = d
  ready : s.ready
  mode  : (s.drive d).mode.emulating = true
  phase : (s.drive d).phase = .realtime
  step  : (s.drive d).tickStep = t
  exit  : (s.drive d).session.exitReason = .unknown

theorem atSubStep_a {s : State} (r : s.ready) (h : SessionOk s.self) (hp : s.self.phase = .realtime)
    (ht : s.self.tickStep = .a) : AtSubStep s.cur .a s := by
  have busy : s.self.phase ≠ .idle := by simp [hp]
  exact ⟨rfl, r, h.point busy, hp, ht, h.exit busy⟩

/-- The sub-step after `t`; after step k the next tick begins (R170). -/
def TickStep.succ : TickStep → TickStep
  | .a => .b
  | .b => .c
  | .c => .d
  | .d => .e
  | .e => .f
  | .f => .g
  | .g => .h
  | .h => .i
  | .i => .j
  | .j => .jx
  | .jx => .k
  | .k => .a

theorem exec_tickInstr (t : TickStep) (s : State) : exec (tickInstr t) s = accept s (atTickStep t) (subStep t) := by
  cases t <;> rfl

theorem AtSubStep.accepts {d : DriveId} {t : TickStep} {s : State} (h : AtSubStep d t s)
    (op : DriveId → State → State) : accept s (atTickStep t) op = .next (op d s) := by
  obtain ⟨rfl, ready, mode, phase, step, _⟩ := h
  exact accept_ready ready (by simp [atTickStep, State.self, mode, phase, step])

theorem AtSubStep.exec_tickInstr {d : DriveId} {t : TickStep} {s : State} (h : AtSubStep d t s) :
    exec (tickInstr t) s = .next (subStep t d s) := by
  rw [Machine.exec_tickInstr, h.accepts]

theorem AtSubStep.exec_tick {d : DriveId} {s : State} (h : AtSubStep d .a s) : exec .tick s = .next (tick d s) :=
  h.accepts tick

theorem focus_self (s : State) : s.focus s.cur s.side s.unbroken = s := rfl

/-- In place for a sub-step the loop's own move is that sub-step. -/
theorem AtSubStep.advance_eq {d : DriveId} {t : TickStep} {s : State} (h : AtSubStep d t s) :
    advance d s = .next (subStep t d s) := by
  have run := h.exec_tickInstr
  obtain ⟨rfl, ⟨present, alive, idle⟩, mode, phase, step, _⟩ := h
  unfold advance
  simp [present, alive, idle, loopStep, mode, phase, step, focus_self, run]

/-! ## What a sub-step leaves -/

theorem subStep_tickStep {d : DriveId} {t : TickStep} {s : State} (h : t ≠ .i) :
    ((subStep t d s).drive d).tickStep = t.succ := by
  cases t with
  | i => exact absurd rfl h
  | k => simp [subStep, tickK, TickStep.succ]
  | a => exact congrArg Drive.tickStep (setStep_drive _ _ _)
  | b => exact congrArg Drive.tickStep (setStep_drive _ _ _)
  | c => exact congrArg Drive.tickStep (setStep_drive _ _ _)
  | d => exact congrArg Drive.tickStep (setStep_drive _ _ _)
  | e => exact congrArg Drive.tickStep (setStep_drive _ _ _)
  | f => exact congrArg Drive.tickStep (setStep_drive _ _ _)
  | g => exact congrArg Drive.tickStep (setStep_drive _ _ _)
  | h => exact congrArg Drive.tickStep (setStep_drive _ _ _)
  | j => exact congrArg Drive.tickStep (setStep_drive _ _ _)
  | jx => exact congrArg Drive.tickStep (setStep_drive _ _ _)

/-- The fields of a record on which the place of a sub-step depends, beside the step itself. -/
structure SamePlace (x y : Drive) : Prop where
  mode  : y.mode = x.mode
  phase : y.phase = x.phase
  todo  : y.todo = x.todo
  exit  : y.session.exitReason = x.session.exitReason

theorem SameControl.samePlace {c : Config} {x y : Drive} (h : SameControl c x y) : SamePlace x y :=
  ⟨h.mode, h.phase, h.todo, h.exitReason⟩

theorem tickK_samePlace (d : DriveId) (s : State) : SamePlace (s.drive d) ((tickK d s).drive d) := by
  obtain ⟨_, _, z, served, _, _, exit, _⟩ := serviceSwap_cases s.cfg (s.drive d)
  constructor <;> simp [tickK, served, exit]

/-- Step i counts, and then either records no exit and goes on to step j, or raises the exit (R181). -/
theorem tickI_cases (d : DriveId) (s : State) :
    (∃ z, z.exitReason = (s.drive d).session.exitReason ∧
        (tickI d s).drive d = { s.drive d with session := z, tickStep := .j }) ∨
      ∃ r z, r ≠ .unknown ∧ z.exitReason = r ∧
        (tickI d s).drive d = { s.drive d with session := z, phase := .idle } := by
  unfold tickI
  dsimp only
  split <;> rename_i h
  · exact .inl ⟨countTick (s.drive d).lines.resetting (s.drive d).session, rfl, by simp [Drive.modSession]⟩
  · refine .inr ⟨_, { countTick (s.drive d).lines.resetting (s.drive d).session with exitReason := _ }, h, rfl, ?_⟩
    rw [raiseExit_drive, drive_mod_self]
    rfl

theorem subStep_samePlace {d : DriveId} {t : TickStep} {s : State} (h : t ≠ .i) :
    SamePlace (s.drive d) ((subStep t d s).drive d) := by
  cases t with
  | i => exact absurd rfl h
  | k => exact tickK_samePlace d s
  | a => exact (tickA_control s.cfg d s).samePlace
  | b => exact (tickB_control s.cfg d s).samePlace
  | c => exact (tickC_control s.cfg d s).samePlace
  | d => exact (tickD_control s.cfg d s).samePlace
  | e => exact (tickE_control s.cfg d s).samePlace
  | f => exact (tickF_control s.cfg d s).samePlace
  | g => exact (tickG_control s.cfg d s).samePlace
  | h => exact (tickH_control d s).samePlace
  | j => exact (tickJ_control s.cfg d s).samePlace
  | jx => exact (tickJX_control s.cfg d s).samePlace

/-- A step that keeps the place and goes on to `u` leaves sub-step `u` in place. -/
theorem AtSubStep.moved {d : DriveId} {t u : TickStep} {s s' : State} (h : AtSubStep d t s) (o : SameOutside d s s')
    (p : SamePlace (s.drive d) (s'.drive d)) (step : (s'.drive d).tickStep = u) : AtSubStep d u s' := by
  obtain ⟨rfl, ⟨present, alive, idle⟩, mode, phase, _, exit⟩ := h
  refine ⟨o.cur, ⟨?_, ?_, ?_⟩, p.mode ▸ mode, p.phase ▸ phase, step, p.exit ▸ exit⟩
  · rw [← present, o.cur]
    unfold State.present
    rw [o.cfg]
  · rwa [State.self, o.cur, p.mode]
  · rwa [State.self, o.cur, p.todo]

theorem AtSubStep.next {d : DriveId} {t : TickStep} {s : State} (h : AtSubStep d t s) (ht : t ≠ .i) :
    AtSubStep d t.succ (subStep t d s) :=
  h.moved (subStep_outside t d s) (subStep_samePlace ht) (subStep_tickStep ht)

/-- After step i the session goes on at step j, or it has recorded an exit and is idle (R170, R181). -/
theorem AtSubStep.after_i {d : DriveId} {s : State} (h : AtSubStep d .i s) :
    AtSubStep d .j (tickI d s) ∨
      ((tickI d s).drive d).session.exitReason ≠ .unknown ∧ ((tickI d s).drive d).phase = .idle := by
  rcases tickI_cases d s with ⟨z, exit, record⟩ | ⟨r, z, exits, exit, record⟩
  · refine .inl (h.moved (tickI_outside d s) ?_ ?_) <;> rw [record]
    exact ⟨rfl, rfl, rfl, exit⟩
  · refine .inr ?_
    rw [record]
    exact ⟨exit ▸ exits, rfl⟩

/-! ## Runs of sub-steps -/

/-- The sub-steps `ts` of drive `d` lead from `s` to `u`, and each starts in place. -/
inductive TickRun (d : DriveId) : List TickStep → State → State → Prop where
  | nil (s : State) : TickRun d [] s s
  | cons {t : TickStep} {ts : List TickStep} {s u : State} (h : AtSubStep d t s)
      (rest : TickRun d ts (subStep t d s) u) : TickRun d (t :: ts) s u

namespace TickRun

variable {d : DriveId} {ts us : List TickStep} {s u v : State}

theorem append (h : TickRun d ts s u) (k : TickRun d us u v) : TickRun d (ts ++ us) s v := by
  induction h with
  | nil => exact k
  | cons h _ ih => exact .cons h (ih k)

theorem split (h : TickRun d (ts ++ us) s v) : ∃ u, TickRun d ts s u ∧ TickRun d us u v := by
  induction ts generalizing s with
  | nil => exact ⟨s, .nil s, h⟩
  | cons t ts ih =>
    obtain _ | ⟨place, rest⟩ := h
    obtain ⟨u, first, last⟩ := ih rest
    exact ⟨u, .cons place first, last⟩

/-- Issued one by one, the words of the sub-steps all go on. -/
theorem execAll_eq (h : TickRun d ts s u) : execAll (ts.map tickInstr) s = .next u := by
  induction h with
  | nil => rfl
  | cons h _ ih => simpa [execAll, h.exec_tickInstr] using ih

/-- The loop's own moves take the sub-steps one by one. -/
theorem advances_eq (h : TickRun d ts s u) : advances d ts.length s = .next u := by
  induction h with
  | nil => rfl
  | cons h _ ih => simpa [advances, h.advance_eq] using ih

/-- The next sub-step of a run is in place only if no exit is recorded. -/
theorem exit_of_ne_nil (h : TickRun d ts s u) (hts : ts ≠ []) : (s.drive d).session.exitReason = .unknown := by
  cases h with
  | nil => exact absurd rfl hts
  | cons h _ => exact h.exit

end TickRun

theorem tickEnds_of_unknown {t : TickStep} {x : Drive} (h : x.session.exitReason = .unknown) :
    tickEnds t x = false := by
  simp [tickEnds, h]

theorem tickEnds_i {x : Drive} : tickEnds .i x = true ↔ x.session.exitReason ≠ .unknown := by
  simp [tickEnds]

/-- A `TICK` that may take more than the sub-steps of a run takes these, and then goes on if no exit is recorded. -/
theorem TickRun.runTick_append {d : DriveId} {ts us : List TickStep} {s u : State} (h : TickRun d ts s u)
    (exit : (u.drive d).session.exitReason = .unknown) (n : Nat) :
    runTick d (ts.length + n) (ts ++ us) s = runTick d n us u := by
  induction h with
  | nil => simp
  | @cons t ts s u _ rest ih =>
    have goesOn : tickEnds t ((subStep t d s).drive d) = false := by
      refine tickEnds_of_unknown ?_
      by_cases hts : ts = []
      · subst hts
        cases rest
        exact exit
      · exact rest.exit_of_ne_nil hts
    rw [List.length_cons, Nat.add_right_comm, List.cons_append, runTick]
    simpa [goesOn] using ih exit

/-- A `TICK` that may take exactly the sub-steps of a run ends where the run ends. -/
theorem TickRun.runTick_length {d : DriveId} {ts : List TickStep} {s u : State} (h : TickRun d ts s u)
    (us : List TickStep) : runTick d ts.length (ts ++ us) s = u := by
  rcases ts.eq_nil_or_concat' with rfl | ⟨ts, t, rfl⟩
  · cases h
    cases us <;> rfl
  · obtain ⟨m, before, last⟩ := h.split
    obtain _ | ⟨place, _ | _⟩ := last
    have := before.runTick_append place.exit 1 (us := t :: us)
    simpa [runTick] using this

/-! ## The whole tick -/

/-- The sub-steps a to h (R170). -/
def stepsBeforeI : List TickStep := [.a, .b, .c, .d, .e, .f, .g, .h]

/-- The sub-steps a to i (R170). -/
def stepsToI : List TickStep := stepsBeforeI ++ [.i]

/-- The sub-steps after i (R170). -/
def stepsAfterI : List TickStep := [.j, .jx, .k]

theorem tickSteps_eq : tickSteps = stepsToI ++ stepsAfterI := rfl

theorem map_stepsToI : stepsToI.map tickInstr = tickInstrsToI := rfl

theorem map_stepsAfterI : stepsAfterI.map tickInstr = tickInstrsAfterI := rfl

section
variable {d : DriveId} {s : State}

theorem AtSubStep.run_before_i (h : AtSubStep d .a s) : ∃ m, TickRun d stepsBeforeI s m ∧ AtSubStep d .i m := by
  have b := h.next (by decide)
  have c := b.next (by decide)
  have d' := c.next (by decide)
  have e := d'.next (by decide)
  have f := e.next (by decide)
  have g := f.next (by decide)
  have h' := g.next (by decide)
  exact ⟨_, .cons h (.cons b (.cons c (.cons d' (.cons e (.cons f (.cons g (.cons h' (.nil _)))))))),
    h'.next (by decide)⟩

theorem AtSubStep.run_after_i (h : AtSubStep d .j s) : ∃ v, TickRun d stepsAfterI s v ∧ AtSubStep d .a v := by
  have jx := h.next (by decide)
  have k := jx.next (by decide)
  exact ⟨_, .cons h (.cons jx (.cons k (.nil _))), k.next (by decide)⟩

/-- A tick takes a to i; then it goes on to the next tick's step a, or an exit has ended it (R170). In both cases a
`TICK` that may take at least these sub-steps ends there. -/
theorem AtSubStep.wholeTick (h : AtSubStep d .a s) :
    ∃ u, TickRun d stepsToI s u ∧
      ((u.drive d).session.exitReason = .unknown ∧
          (∃ v, TickRun d stepsAfterI u v ∧ AtSubStep d .a v ∧
            ∀ n, runTick d (tickSteps.length + n) tickSteps s = v) ∨
        ((u.drive d).session.exitReason ≠ .unknown ∧ (u.drive d).phase = .idle ∧
          ∀ n, runTick d (stepsToI.length + n) tickSteps s = u)) := by
  obtain ⟨m, before, i⟩ := h.run_before_i
  have toI : TickRun d stepsToI s (subStep .i d m) := before.append (.cons i (.nil _))
  refine ⟨_, toI, ?_⟩
  rcases i.after_i with j | ⟨exits, idle⟩
  · obtain ⟨v, after, a⟩ := j.run_after_i
    refine .inl ⟨j.exit, v, after, a, fun n => ?_⟩
    simpa [← tickSteps_eq, runTick] using (toI.append after).runTick_append a.exit n (us := [])
  · refine .inr ⟨exits, idle, fun n => ?_⟩
    have stop : tickEnds .i ((tickI d m).drive d) = true := tickEnds_i.2 exits
    calc runTick d (stepsToI.length + n) tickSteps s
        = runTick d (stepsBeforeI.length + (n + 1)) (stepsBeforeI ++ .i :: stepsAfterI) s := by
          rw [Nat.add_comm n 1, ← Nat.add_assoc]; rfl
      _ = runTick d (n + 1) (.i :: stepsAfterI) m := before.runTick_append i.exit (n + 1)
      _ = tickI d m := by simp [runTick, subStep, stop]

end

/-- A `TICK` that may take at least the `k` sub-steps of a whole tick ends where the whole tick ends. -/
theorem tick_eq_of_whole {d : DriveId} {s u : State} {k : Nat} (whole : ∀ n, runTick d (k + n) tickSteps s = u)
    (enough : k ≤ s.unbroken + 1) : tick d s = u := by
  obtain ⟨n, hn⟩ := Nat.exists_eq_add_of_le enough
  rw [tick, hn, whole]

/-- A `TICK` that is interrupted within the sub-steps `ts` has taken the first of them. -/
theorem TickRun.tick_eq {d : DriveId} {ts us : List TickStep} {s u : State}
    (h : TickRun d (ts.take (s.unbroken + 1)) s u) (inside : s.unbroken + 1 ≤ ts.length) (all : ts ++ us = tickSteps) :
    tick d s = u := by
  have ends := h.runTick_length (ts.drop (s.unbroken + 1) ++ us)
  rwa [← List.append_assoc, List.take_append_drop, all, List.length_take_of_le inside] at ends

/-- Settles O45: a `TICK` from its step a is a run of sub-steps, which ends with step i, an exit, or step k. -/
theorem tickIsItsSubsteps : Obligations.TickIsItsSubsteps := by
  refine ⟨fun s ready ok phase step few => ?_, fun s ready ok phase step many => ?_⟩
  · have a := atSubStep_a ready ok phase step
    obtain ⟨u, toI, _⟩ := a.wholeTick
    rw [← List.take_append_drop (s.unbroken + 1) stepsToI] at toI
    obtain ⟨m, taken, _⟩ := toI.split
    refine ⟨⟨_, a.exec_tick⟩, ?_⟩
    rw [a.exec_tick, taken.tick_eq (Nat.succ_le_succ few) tickSteps_eq.symm, ← map_stepsToI, ← List.map_take,
      taken.execAll_eq]
  · have a := atSubStep_a ready ok phase step
    obtain ⟨u, toI, ⟨unknown, v, after, next, whole⟩ | ⟨exits, idle, whole⟩⟩ := a.wholeTick
    · have ends : tick s.cur s = v := tick_eq_of_whole whole (Nat.succ_le_succ many)
      exact ⟨u, v, toI.execAll_eq, ends ▸ a.exec_tick, fun _ => ⟨after.execAll_eq, next.step, next.phase⟩,
        fun exits => absurd unknown exits⟩
    · have ends : tick s.cur s = u := tick_eq_of_whole whole (show 9 ≤ s.unbroken + 1 by omega)
      exact ⟨u, u, toI.execAll_eq, ends ▸ a.exec_tick, fun unknown => absurd unknown exits, fun _ => ⟨rfl, idle⟩⟩

end Sys2Proof.Machine
end

-- ==== Operations of several atomic steps ====
section
/-! SUPPORT. How an interrupted operation is finished (`00_scope.md` R11). No lock step reads the fields in which the
model keeps an interruption, `Drive.todo` and `State.unbroken` (log entry 11), so the steps lead to the same state
wherever other agents are let in between. -/

namespace Sys2Proof.Machine

/-! ## The record of an interruption -/

/-- `s` with the steps `ts` of drive `d` still to take, of an operation issued to take `n` further ones at once. -/
def pause (d : DriveId) (ts : List LockStep) (n : Nat) (s : State) : State :=
  ({ s with unbroken := n } : State).mod d fun x => { x with todo := ts }

section
variable (d : DriveId) (ts us : List LockStep) (m n : Nat) (s : State)

@[simp] theorem drive_pause : (pause d ts n s).drive d = { s.drive d with todo := ts } := by simp [pause]

@[simp] theorem pause_cfg : (pause d ts n s).cfg = s.cfg := by simp [pause]

@[simp] theorem pause_lock : (pause d ts n s).lock = s.lock := by simp [pause]

@[simp] theorem pause_draws : (pause d ts n s).draws = s.draws := by simp [pause]

@[simp] theorem present_pause : (pause d ts n s).present d = s.present d := by
  cases d <;> rfl

@[simp] theorem setTodo_pause : setTodo d us (pause d ts n s) = pause d us n s := by
  cases d <;> rfl

@[simp] theorem pause_unbroken : ({ pause d ts n s with unbroken := m } : State) = pause d ts m s := by
  cases d <;> rfl

/-- Of an drive with no step left, an issue sets `unbroken` alone. -/
theorem unbroken_eq_pause (h : (s.drive d).todo = []) : ({ s with unbroken := n } : State) = pause d [] n s := by
  refine (mod_eq_self _ _ _ ?_).symm
  rw [drive_unbroken, ← h]

theorem emit_pause (e : Event) : (pause d ts n s).emit e = pause d ts n (s.emit e) := by
  cases d <;> rfl

theorem mod_pause (f : Drive → Drive) (h : ∀ x : Drive, f { x with todo := ts } = { f x with todo := ts }) :
    (pause d ts n s).mod d f = pause d ts n (s.mod d f) := by
  cases d <;> simp [pause, State.mod, State.setDrive, State.drive, h]

theorem spend_pause (p : Port) : (pause d ts n s).spend d p = pause d ts n (s.spend d p) := by
  unfold State.spend
  rw [drive_pause]
  split
  · exact mod_pause _ _ _ _ _ fun _ => rfl
  · cases d <;> rfl

theorem headAnswer_pause : (pause d ts n s).headAnswer d = s.headAnswer d := by
  simp [State.headAnswer]

/-! ## No lock step reads it -/

theorem notImpl_pause : notImpl d (pause d ts n s) = pause d ts n (notImpl d s) := by
  unfold notImpl
  rw [drive_pause]
  split
  · rfl
  · rw [mod_pause _ _ _ _ _ fun _ => rfl, emit_pause]

theorem refresh_pause : refresh d (pause d ts n s) = pause d ts n (refresh d s) := by
  unfold refresh gpioDrive
  rw [pause_cfg, drive_pause]
  split
  · exact notImpl_pause _ _ _ _
  · rw [mod_pause _ _ _ _ _ fun _ => rfl, emit_pause]
    rfl

theorem busReset_pause : busReset d (pause d ts n s) = pause d ts n (busReset d s) := by
  unfold busReset
  dsimp only
  rw [mod_pause _ _ _ _ _ fun _ => rfl, drive_pause]
  split
  · exact refresh_pause _ _ _ _
  · rfl

theorem enterSession_pause : enterSession d (pause d ts n s) = pause d ts n (enterSession d s) := by
  unfold enterSession
  dsimp only
  rw [busReset_pause, headAnswer_pause, spend_pause, pause_cfg]
  exact mod_pause _ _ _ _ _ fun _ => rfl

theorem leaveSession_pause : leaveSession d (pause d ts n s) = pause d ts n (leaveSession d s) := by
  unfold leaveSession setResult
  dsimp only
  rw [mod_pause _ _ _ _ _ fun _ => rfl, emit_pause, emit_pause, drive_pause, pause_cfg]
  split <;> exact mod_pause _ _ _ _ _ fun _ => rfl

theorem lockStep_pause (t : LockStep) : lockStep d t (pause d ts n s) = pause d ts n (lockStep d t s) := by
  cases t with
  | enterSession => exact enterSession_pause _ _ _ _
  | leaveSession => exact leaveSession_pause _ _ _ _
  | acquire => cases d <;> rfl
  | release => cases d <;> rfl
  | countUp => cases d <;> rfl
  | countDown => cases d <;> rfl

theorem stepEnabled_pause (t : LockStep) : stepEnabled d t (pause d ts n s) = stepEnabled d t s := by
  cases t <;> simp [stepEnabled]

end

/-! ## Steps that are not blocked -/

/-- The steps `ts` of drive `d`, all taken. -/
def lockSteps (d : DriveId) (ts : List LockStep) (s : State) : State :=
  ts.foldl (fun s t => lockStep d t s) s

/-- Each of the steps `ts` finds itself enabled when they are taken from `s` one after the other (R210). -/
def Unblocked (d : DriveId) : List LockStep → State → Prop
  | [], _ => True
  | t :: ts, s => stepEnabled d t s = true ∧ Unblocked d ts (lockStep d t s)

theorem unblocked_append {d : DriveId} {ts us : List LockStep} {s : State} :
    Unblocked d (ts ++ us) s ↔ Unblocked d ts s ∧ Unblocked d us (lockSteps d ts s) := by
  induction ts generalizing s with
  | nil => simp [Unblocked, lockSteps]
  | cons t ts ih => simp [Unblocked, lockSteps, ih, and_assoc]

theorem lockSteps_append (d : DriveId) (ts us : List LockStep) (s : State) :
    lockSteps d (ts ++ us) s = lockSteps d us (lockSteps d ts s) := by
  simp [lockSteps]

/-- Of steps that nothing blocks, as many are taken as may be; the others are left. -/
theorem runSteps_pause {d : DriveId} {ts : List LockStep} {s : State} (h : Unblocked d ts s) (us : List LockStep)
    (m n : Nat) : runSteps d m ts (pause d us n s) = pause d (ts.drop m) n (lockSteps d (ts.take m) s) := by
  induction m generalizing ts s with
  | zero => simp [runSteps, lockSteps]
  | succ m ih =>
    cases ts with
    | nil => simp [runSteps, lockSteps]
    | cons t ts =>
      obtain ⟨enabled, rest⟩ := h
      rw [runSteps, stepEnabled_pause, if_pos enabled, lockStep_pause, ih rest]
      rfl

theorem lockStep_present (d e : DriveId) (t : LockStep) (s : State) : (lockStep d t s).present e = s.present e := by
  cases e
  · rfl
  · exact congrArg Config.dualDrive (lockStep_cfg d t s)

/-- A step never leads into the terminal mode (R192). -/
theorem lockStep_alive {d : DriveId} {t : LockStep} {s : State} (h : (s.drive d).mode ≠ .emulationShutdown) :
    ((lockStep d t s).drive d).mode ≠ .emulationShutdown := by
  cases t with
  | enterSession =>
    obtain ⟨_, _, _, _, record⟩ := enterSession_drive d s
    simpa [lockStep, record] using h
  | leaveSession => simp [lockStep, leaveSession_drive]
  | acquire => simpa [lockStep] using h
  | release => simpa [lockStep] using h
  | countUp => simpa [lockStep, setInLoop] using h
  | countDown => simpa [lockStep, setInLoop] using h

theorem lockSteps_present (d e : DriveId) (ts : List LockStep) (s : State) :
    (lockSteps d ts s).present e = s.present e := by
  induction ts generalizing s with
  | nil => rfl
  | cons t ts ih => exact (ih _).trans (lockStep_present d e t s)

theorem lockSteps_alive {d : DriveId} {ts : List LockStep} {s : State} (h : (s.drive d).mode ≠ .emulationShutdown) :
    ((lockSteps d ts s).drive d).mode ≠ .emulationShutdown := by
  induction ts generalizing s with
  | nil => exact h
  | cons t ts ih => exact ih (lockStep_alive h)

/-- While steps are left, the loop's move is the next of them. -/
theorem advance_of_todo {d : DriveId} {t : LockStep} {ts : List LockStep} {s : State} (present : s.present d = true)
    (alive : (s.drive d).mode ≠ .emulationShutdown) (todo : (s.drive d).todo = t :: ts) :
    advance d s = .next (runSteps d 1 (t :: ts) s) := by
  simp [advance, present, alive, todo]

/-- The loop's own moves take the steps that are left. -/
theorem advances_pause {d : DriveId} {ts : List LockStep} {n : Nat} {s : State} (h : Unblocked d ts s)
    (present : s.present d = true) (alive : (s.drive d).mode ≠ .emulationShutdown) :
    advances d ts.length (pause d ts n s) = .next (pause d [] n (lockSteps d ts s)) := by
  induction ts generalizing s with
  | nil => rfl
  | cons t ts ih =>
    have next : advance d (pause d (t :: ts) n s) = .next (pause d ts n (lockStep d t s)) := by
      rw [advance_of_todo (t := t) (ts := ts) (by simpa using present) (by simpa using alive) (by simp),
        runSteps_pause h]
      rfl
    simp only [List.length_cons, advances, next]
    exact ih h.2 (by rwa [lockStep_present]) (lockStep_alive alive)

/-! ## Issued operations -/

/-- An issued operation whose steps nothing blocks takes the first of them and leaves the others. -/
theorem accept_startSteps {s : State} {pre : Drive → Bool} {ts : List LockStep} (r : s.ready) (hpre : pre s.self = true)
    (h : Unblocked s.cur ts s) (n : Nat) :
    accept { s with unbroken := n } pre (startSteps ts) =
      .next (pause s.cur (ts.drop (n + 1)) n (lockSteps s.cur (ts.take (n + 1)) s)) := by
  have ready : ({ s with unbroken := n } : State).ready := by simpa [State.ready, State.self, State.present] using r
  rw [accept_ready ready (by simpa [State.self] using hpre)]
  simp only [startSteps]
  rw [unbroken_eq_pause s.cur n s r.2.2, runSteps_pause h]

/-- Wherever such an operation is interrupted, the loop's own moves finish it. -/
theorem advances_startSteps {s : State} {pre : Drive → Bool} {ts : List LockStep} (r : s.ready)
    (hpre : pre s.self = true) (h : Unblocked s.cur ts s) (short : ts.length ≤ 4) (n : Nat) :
    ∃ t u v k, accept { s with unbroken := n } pre (startSteps ts) = .next t ∧
      accept { s with unbroken := 11 } pre (startSteps ts) = .next u ∧
      k ≤ 3 ∧ advances s.cur k t = .next v ∧ { v with unbroken := 11 } = u := by
  have resumed : Unblocked s.cur (ts.drop (n + 1)) (lockSteps s.cur (ts.take (n + 1)) s) :=
    (unblocked_append.1 (by rwa [List.take_append_drop])).2
  have finished := advances_pause (n := n) resumed (by rw [lockSteps_present]; exact r.1) (lockSteps_alive r.2.1)
  rw [← lockSteps_append, List.take_append_drop] at finished
  refine ⟨_, _, _, _, accept_startSteps r hpre h n, accept_startSteps r hpre h 11, ?_, finished, ?_⟩
  · rw [List.length_drop]
    omega
  · rw [pause_unbroken, List.drop_eq_nil_of_le (by omega), List.take_of_length_le (by omega)]

/-- With the lock free nothing blocks a locked section: its own `Acquire` is what `Release` asks for (R210). -/
theorem unblocked_section {d : DriveId} {s : State} (free : s.lock = .free) :
    Unblocked d ddEnterSteps s ∧ Unblocked d ddExitSteps s ∧ Unblocked d emulateEnterSteps s ∧
      Unblocked d emulateExitSteps s := by
  simp [Unblocked, ddEnterSteps, ddExitSteps, emulateEnterSteps, emulateExitSteps, stepEnabled, lockStep, setInLoop,
    free]

/-! ## A tick -/

/-- The loop's own moves lead an interrupted `TICK` to the end of the whole tick. -/
theorem TickRun.tick_resumes {d : DriveId} {ts us : List TickStep} {s v : State} (h : TickRun d ts s v)
    (all : ts ++ us = tickSteps) (whole : ∀ n, runTick d (ts.length + n) tickSteps s = v) :
    ∃ k ≤ 11, advances d k (tick d s) = .next v := by
  have short : ts.length ≤ 12 := by
    have := congrArg List.length all
    simp [tickSteps] at this
    omega
  by_cases inside : s.unbroken + 1 ≤ ts.length
  · rw [← List.take_append_drop (s.unbroken + 1) ts] at h
    obtain ⟨u, taken, left⟩ := h.split
    refine ⟨_, ?_, taken.tick_eq inside all ▸ left.advances_eq⟩
    rw [List.length_drop]
    omega
  · exact ⟨0, by omega, by rw [tick_eq_of_whole whole (by omega)]; rfl⟩

theorem tick_resumes {s : State} (a : AtSubStep s.cur .a s) :
    ∃ t u v k, exec .tick s = .next t ∧ k ≤ 11 ∧ advances s.cur k t = .next v ∧ execAll tickInstrsToI s = .next u ∧
      ((u.drive s.cur).session.exitReason = .unknown → execAll tickInstrsAfterI u = .next v) ∧
      ((u.drive s.cur).session.exitReason ≠ .unknown → v = u) := by
  obtain ⟨u, toI, ⟨unknown, v, after, _, whole⟩ | ⟨exits, _, whole⟩⟩ := a.wholeTick
  · obtain ⟨k, few, finished⟩ := (toI.append after).tick_resumes (us := []) rfl whole
    exact ⟨_, u, v, k, a.exec_tick, few, finished, toI.execAll_eq, fun _ => after.execAll_eq,
      fun exits => absurd unknown exits⟩
  · obtain ⟨k, few, finished⟩ := toI.tick_resumes tickSteps_eq.symm whole
    exact ⟨_, u, u, k, a.exec_tick, few, finished, toI.execAll_eq, fun unknown => absurd unknown exits, fun _ => rfl⟩

/-! ## The first steps, one by one -/

theorem lockSteps_unbroken (d : DriveId) (ts : List LockStep) (s : State) :
    (lockSteps d ts s).unbroken = s.unbroken := by
  induction ts generalizing s with
  | nil => rfl
  | cons t ts ih =>
    obtain ⟨_, _, _, _, _, keeps⟩ := lockStep_keeps d t s
    exact (ih _).trans keeps

/-- Of a state whose issue this is, a pause sets the steps left alone. -/
theorem pause_self {d : DriveId} {ts : List LockStep} {n : Nat} {s : State} (h : s.unbroken = n) :
    pause d ts n s = s.mod d fun x => { x with todo := ts } := by
  subst h
  rfl

/-- The steps an operation takes now, as the state stands. -/
theorem accept_startSteps_now {s : State} {pre : Drive → Bool} {ts : List LockStep} (r : s.ready)
    (hpre : pre s.self = true) (h : Unblocked s.cur ts s) {n : Nat} (now : s.unbroken = n) :
    accept s pre (startSteps ts) =
      .next ((lockSteps s.cur (ts.take (n + 1)) s).mod s.cur fun x => { x with todo := ts.drop (n + 1) }) := by
  subst now
  exact (accept_startSteps r hpre h s.unbroken).trans (congrArg _ (pause_self (lockSteps_unbroken _ _ _)))

/-- `DD_ENTER` interrupted after its first step, and after its second one (R211). -/
theorem execDdEnter_interrupted {s : State} (r : s.ready) (free : s.lock = .free)
    (out : s.self.session.inLoop = false) :
    (s.unbroken = 0 → exec .ddEnter s = .next
        (({ s with lock := .held s.cur } : State).mod s.cur fun x => { x with todo := [.countUp, .release] })) ∧
      (s.unbroken = 1 → exec .ddEnter s = .next
        (({ s with lock := .held s.cur, dualDrive := s.dualDrive + 1 } : State).mod s.cur fun x =>
          { x with session := { x.session with inLoop := true }, todo := [.release] })) := by
  have run {n : Nat} := accept_startSteps_now (pre := outOfLoop) r (by simp [outOfLoop, out])
    (unblocked_section free).1 (n := n)
  refine ⟨run, fun h => (run h).trans ?_⟩
  simp [lockSteps, ddEnterSteps, lockStep, setInLoop, Drive.modSession]

/-- `DD_EXIT` interrupted after its first step, and after its second one (R212). -/
theorem execDdExit_interrupted {s : State} (r : s.ready) (free : s.lock = .free)
    (inside : s.self.session.inLoop = true) :
    (s.unbroken = 0 → exec .ddExit s = .next
        (({ s with lock := .held s.cur } : State).mod s.cur fun x => { x with todo := [.countDown, .release] })) ∧
      (s.unbroken = 1 → exec .ddExit s = .next
        (({ s with lock := .held s.cur, dualDrive := s.dualDrive - 1 } : State).mod s.cur fun x =>
          { x with session := { x.session with inLoop := false }, todo := [.release] })) := by
  have run {n : Nat} := accept_startSteps_now (pre := isInLoop) r inside (unblocked_section free).2.1 (n := n)
  refine ⟨run, fun h => (run h).trans ?_⟩
  simp [lockSteps, ddExitSteps, lockStep, setInLoop, Drive.modSession]

/-! ## An entering loop -/

theorem mayEnter_iff {x : Drive} :
    mayEnter x = true ↔ x.mode.emulating = true ∧ x.phase = .idle ∧ x.session.inLoop = false := by
  simp [mayEnter, and_assoc]

theorem mayLeave_iff {x : Drive} :
    mayLeave x = true ↔ x.mode.emulating = true ∧ x.phase = .idle ∧ x.session.exitReason ≠ .unknown ∧
      x.session.inLoop = true := by
  simp [mayLeave, and_assoc]

theorem alive_of_emulating {x : Drive} (h : x.mode.emulating = true) : x.mode ≠ .emulationShutdown := by
  intro down
  rw [down] at h
  cases h

/-- A loop that may enter takes the first step of `EMULATE_ENTER` by its own move. -/
theorem advance_of_mayEnter {d : DriveId} {s : State} (present : s.present d = true) (idle : (s.drive d).todo = [])
    (enters : mayEnter (s.drive d) = true) : advance d s = .next (runSteps d 1 emulateEnterSteps s) := by
  obtain ⟨mode, phase, _⟩ := mayEnter_iff.1 enters
  simp [advance, present, alive_of_emulating mode, idle, loopStep, mode, phase, enters]

/-- One lock step taken now, the others left. -/
theorem runSteps_one {d : DriveId} {t : LockStep} {ts : List LockStep} {s : State} (h : stepEnabled d t s = true) :
    runSteps d 1 (t :: ts) s = setTodo d ts (lockStep d t s) := by
  simp [runSteps, h]

/-- The records settle what `drive` reads, whatever becomes of the other fields. -/
@[simp] theorem drive_mk (s : State) (c : Config) (n : Int) (l : Lock) (cur d : DriveId) (side : SideData)
    (trace : List Event) (agenda : List Move) (k draws : Nat) :
    (State.mk c s.d0 s.d1 n l cur side trace agenda k draws).drive d = s.drive d := by
  cases d <;> rfl

/-- The configuration settles which instances exist (R213). -/
@[simp] theorem present_mk (s : State) (x y : Drive) (n : Int) (l : Lock) (cur d : DriveId) (side : SideData)
    (trace : List Event) (agenda : List Move) (k draws : Nat) :
    (State.mk s.cfg x y n l cur side trace agenda k draws).present d = s.present d := by
  cases d <;> rfl

/-- The loop's move on the agenda takes the next of the steps that are left. -/
theorem step_of_todo {d : DriveId} {t : LockStep} {ts : List LockStep} {rest : List Move} {s : State}
    (agenda : s.agenda = .advance d :: rest) (present : s.present d = true)
    (alive : (s.drive d).mode ≠ .emulationShutdown) (todo : (s.drive d).todo = t :: ts)
    (enabled : stepEnabled d t { s with agenda := rest } = true) :
    step s = .next (setTodo d ts (lockStep d t { s with agenda := rest })) := by
  rw [step_eq_runMove agenda, runMove, advance_of_todo (t := t) (ts := ts) (by simpa) (by simpa) (by simpa),
    runSteps_one enabled]

/-- The first move of a loop that may enter takes the lock. -/
theorem step_of_mayEnter {d : DriveId} {rest : List Move} {s : State} (agenda : s.agenda = .advance d :: rest)
    (present : s.present d = true) (idle : (s.drive d).todo = []) (free : s.lock = .free)
    (enters : mayEnter (s.drive d) = true) :
    step s = .next (setTodo d [.countUp, .release, .enterSession] { s with lock := .held d, agenda := rest }) := by
  rw [step_eq_runMove agenda, runMove, advance_of_mayEnter (by simpa) (by simpa) (by simpa)]
  exact congrArg _ (runSteps_one (by simpa [stepEnabled] using free))

/-- Three moves of an entering loop: it takes the lock, counts itself, and gives the lock back (R211). -/
theorem enteringLoop_steps {s : State} {d : DriveId} {rest : List Move} (present : s.present d = true)
    (idle : (s.drive d).todo = []) (free : s.lock = .free) (enters : mayEnter (s.drive d) = true)
    (agenda : s.agenda = .advance d :: .advance d :: .advance d :: rest) :
    ∃ t u v, step s = .next t ∧ step t = .next u ∧ step u = .next v ∧
      (t.lock = .held d ∧ t.dualDrive = s.dualDrive ∧ (t.drive d).session.inLoop = false) ∧
      (u.lock = .held d ∧ u.dualDrive = s.dualDrive + 1 ∧ (u.drive d).session.inLoop = true) ∧
      (v.lock = .free ∧ v.dualDrive = s.dualDrive + 1 ∧ (v.drive d).todo = [.enterSession] ∧ v.agenda = rest) := by
  obtain ⟨mode, _, outside⟩ := mayEnter_iff.1 enters
  have alive := alive_of_emulating mode
  refine ⟨_, _, _, step_of_mayEnter agenda present idle free enters,
    step_of_todo (d := d) (t := .countUp) (ts := [.release, .enterSession]) (rest := .advance d :: rest) ?_ ?_ ?_ ?_ ?_,
    step_of_todo (d := d) (t := .release) (ts := [.enterSession]) (rest := rest) ?_ ?_ ?_ ?_ ?_, ?_, ?_, ?_⟩
  all_goals simp [setTodo, lockStep, setInLoop, stepEnabled, present, alive, outside]

/-- Settles O48: the fields of an interruption commute with every lock step, and a `TICK` is a run of sub-steps. -/
theorem multiStepOperationsAreInterruptible : Obligations.MultiStepOperationsAreInterruptible := by
  refine ⟨fun s i n r h => ?_, fun s r ok phase step => tick_resumes (atSubStep_a r ok phase step),
    fun s r free => ⟨execDdEnter_interrupted r free, execDdExit_interrupted r free⟩,
    fun s d rest present idle free mode phase out agenda =>
      enteringLoop_steps present idle free (mayEnter_iff.2 ⟨mode, phase, out⟩) agenda⟩
  rcases h with ⟨rfl, free, out⟩ | ⟨rfl, free, inside⟩ | ⟨rfl, free, enters⟩ | ⟨rfl, free, leaves⟩ <;>
    obtain ⟨ddEnter, ddExit, enter, leave⟩ := unblocked_section (d := s.cur) free
  · exact advances_startSteps (pre := outOfLoop) r (by simp [outOfLoop, out]) ddEnter (by decide) n
  · exact advances_startSteps (pre := isInLoop) r inside ddExit (by decide) n
  · exact advances_startSteps r (mayEnter_iff.2 enters) enter (by decide) n
  · exact advances_startSteps r (mayLeave_iff.2 leaves) leave (by decide) n

end Sys2Proof.Machine
end

-- ==== What every step keeps of the arbiter and the sequencers ====
section
/-! SUPPORT. `LoopInv` is kept by every step (`10_state.md` R23, R30, R33, R39, `44_arbiter.md` R210 to R212). An
operation other than the arbiter's keeps what the arbiter sees of its drive, so the invariant comes down to the
drive's own record; the arbiter's operations are followed lock step by lock step. -/

namespace Sys2Proof.Machine

/-! ## The invariant seen from one drive -/

/-- What a drive adds to `G.dual_drive` (R39). -/
def counted (x : Drive) : Int :=
  if x.session.inLoop then 1 else 0

theorem loopCount_eq (s : State) (d : DriveId) : loopCount s = counted (s.drive d) + counted (s.drive d.other) := by
  cases d
  · rfl
  · exact Int.add_comm _ _

theorem forall_drive {p : DriveId → Prop} (d : DriveId) : (∀ e, p e) ↔ p d ∧ p d.other := by
  refine ⟨fun h => ⟨h d, h d.other⟩, fun ⟨own, other⟩ e => ?_⟩
  obtain rfl | rfl := eq_or_eq_other d e
  · exact own
  · exact other

/-- A change that leaves the other drive alone keeps the invariant if its own record fits the counter
and the lock. -/
theorem LoopInv.change {d : DriveId} {s t : State} (h : LoopInv s) (other : t.drive d.other = s.drive d.other)
    (count : t.dualDrive - counted (t.drive d) = s.dualDrive - counted (s.drive d))
    (own : t.lock = .held d ↔ holdsLock (t.drive d)) (others : t.lock = .held d.other ↔ s.lock = .held d.other)
    (todo : TodoOk (t.drive d)) (session : SessionOk (t.drive d)) : LoopInv t := by
  obtain ⟨⟨hcount, hlock, htodo⟩, hsession⟩ := h
  refine ⟨⟨?_, (forall_drive d).2 ⟨own, ?_⟩, (forall_drive d).2 ⟨todo, ?_⟩⟩, (forall_drive d).2 ⟨session, ?_⟩⟩
  · rw [loopCount_eq s d] at hcount
    rw [loopCount_eq t d, other]
    omega
  · rw [other, others]
    exact hlock d.other
  · rw [other]
    exact htodo d.other
  · rw [other]
    exact hsession d.other

/-- With no step left there is nothing to fit. -/
theorem todoOk_of_nil {x : Drive} (h : x.todo = []) : TodoOk x := by
  constructor <;> simp [h, legalTodo]

theorem not_holdsLock_of_nil {x : Drive} (h : x.todo = []) : ¬ holdsLock x := by
  simp [holdsLock, h]

theorem loopInv_focus {s : State} (h : LoopInv s) (d : DriveId) (side : SideData) (n : Nat) :
    LoopInv (s.focus d side n) :=
  ⟨⟨h.arbiter.count, by simpa [State.focus] using h.arbiter.lock, by simpa using h.arbiter.todo⟩,
    by simpa using h.session⟩

theorem loopInv_agenda {s : State} (h : LoopInv s) (ms : List Move) : LoopInv { s with agenda := ms } :=
  ⟨⟨h.arbiter.count, by simpa using h.arbiter.lock, by simpa using h.arbiter.todo⟩, by simpa using h.session⟩

/-! ## Operations that the arbiter does not see -/

/-- Outside a session the phase is idle (R30). -/
theorem SessionOk.idle {x : Drive} (h : SessionOk x) (mode : x.mode = .iecCommands) : x.phase = .idle := by
  by_contra busy
  have := h.point busy
  simp [mode, Mode.emulating] at this

/-- `y` looks to the arbiter like `x`, and keeps the invariant of the sequencer. -/
structure KeepsLoop (x y : Drive) : Prop where
  todo    : y.todo = x.todo
  inLoop  : y.session.inLoop = x.session.inLoop
  session : SessionOk x → SessionOk y

theorem KeepsLoop.refl (x : Drive) : KeepsLoop x x :=
  ⟨rfl, rfl, id⟩

theorem KeepsLoop.trans {x y z : Drive} (h : KeepsLoop x y) (k : KeepsLoop y z) : KeepsLoop x z :=
  ⟨k.todo.trans h.todo, k.inLoop.trans h.inLoop, k.session ∘ h.session⟩

theorem SameControl.keepsLoop {c : Config} {x y : Drive} (h : SameControl c x y) : KeepsLoop x y where
  todo := h.todo
  inLoop := h.inLoop
  session ok := by
    refine ⟨?_, ?_, ?_, ?_, ?_, ?_⟩
    · simpa [h.phase, h.mode] using ok.point
    · simpa [h.mode, h.chipKind] using ok.chip1541
    · simpa [h.mode, h.chipKind] using ok.chip1581
    · intro busy
      rw [h.phase] at busy
      exact h.gate busy (ok.gate busy)
    · simpa [h.phase, h.exitReason] using ok.exit
    · simpa [h.mode, h.inLoop] using ok.down

/-- A record that agrees with another in every field the invariant speaks of. -/
theorem KeepsLoop.of {x y : Drive} (mode : y.mode = x.mode) (phase : y.phase = x.phase)
    (chipKind : y.chipKind = x.chipKind) (lines : y.lines = x.lines) (todo : y.todo = x.todo)
    (exit : y.session.exitReason = x.session.exitReason) (inLoop : y.session.inLoop = x.session.inLoop) :
    KeepsLoop x y := by
  refine ⟨todo, inLoop, fun ok => ?_⟩
  constructor
  · simpa [phase, mode] using ok.point
  · simpa [mode, chipKind] using ok.chip1541
  · simpa [mode, chipKind] using ok.chip1581
  · simpa [phase, chipKind, lines] using ok.gate
  · simpa [phase, exit] using ok.exit
  · simpa [mode, inLoop] using ok.down

/-- An operation that the arbiter does not see keeps the whole invariant. -/
theorem LoopInv.keep {d : DriveId} {s t : State} (h : LoopInv s) (o : SameOutside d s t)
    (k : KeepsLoop (s.drive d) (t.drive d)) (todo : TodoOk (t.drive d)) : LoopInv t := by
  refine h.change o.other ?_ ?_ ?_ todo (k.session (h.session d))
  · simp [counted, o.dualDrive, k.inLoop]
  · rw [o.lock, h.arbiter.lock d, holdsLock, holdsLock, k.todo]
  · rw [o.lock]

/-! ## Senses, the fast path and the caddy -/

/-- `READ_BROWSE` writes the sensed flags, the sample, the buttons and the report of R116 (R111). -/
theorem readBrowse_drive_exists (d : DriveId) (s : State) :
    ∃ l w p rep b e, (readBrowse d s).drive d =
      { s.drive d with
        lines := l, rawSample := w, samplePolled := p, notImplReported := rep, buttons := b, env := e } := by
  unfold readBrowse
  split
  · exact ⟨_, _, _, _, _, _, notImpl_drive d s⟩
  · split
    · exact ⟨_, _, _, (s.drive d).notImplReported, _, _, by
        simp only [pollButtons_drive, drive_mod_self, gpioRead_drive, Drive.modLines]; rfl⟩
    · exact ⟨_, _, _, _, _, _, rfl⟩

/-- Outside a session no gate has to hold, so the flags may be sensed freely (R23, R111). -/
theorem readBrowse_keepsLoop {d : DriveId} {s : State} (mode : (s.drive d).mode = .iecCommands) :
    KeepsLoop (s.drive d) ((readBrowse d s).drive d) := by
  obtain ⟨l, w, p, rep, b, e, record⟩ := readBrowse_drive_exists d s
  rw [record]
  refine ⟨rfl, rfl, fun ok => ?_⟩
  exact ⟨ok.point, ok.chip1541, ok.chip1581, fun busy => absurd (ok.idle mode) busy, ok.exit, ok.down⟩

/-- Beginning sets the mode and the chip kind together, and leaves the phase idle (R166). -/
theorem beginEmulating_keepsLoop {d : DriveId} {s : State} (mode : (s.drive d).mode = .iecCommands) :
    KeepsLoop (s.drive d) ((beginEmulating d s).drive d) := by
  obtain ⟨_, same⟩ | ⟨img, _, record⟩ := beginEmulating_cases d s
  · rw [same]
    exact .refl _
  · have quirk (z : Session) : (applyQuirk s.cfg img z).inLoop = z.inLoop := by
      unfold applyQuirk
      split <;> rfl
    rw [record]
    refine ⟨rfl, quirk _, fun ok => ?_⟩
    have idle := ok.idle mode
    cases kindOfImage img <;> constructor <;> simp [modeOfKind, idle]

/-- A selected image is not mounted, or it is in the caddy when the emulation begins (R190, R242). -/
theorem imageSelected_cases (d : DriveId) (s : State) :
    (∃ l e, (imageSelected d s).drive d = { s.drive d with latches := l, env := e }) ∨
      ∃ u l y e, imageSelected d s = beginEmulating d u ∧
        u.drive d = { s.drive d with latches := l, caddy := y, env := e } := by
  unfold imageSelected
  dsimp only
  generalize hs0 : (s.mod d fun x => x.modLatches fun l => { l with reqMount := none }) = s0
  have cleared : s0.drive d = { s.drive d with latches := { (s.drive d).latches with reqMount := none } } := by
    rw [← hs0, drive_mod_self]
    rfl
  obtain ⟨img, e, fits, _, _, record⟩ | ⟨e, fails, record⟩ := caddyInsert_cases s.side.file s.side.readOnly d s0
  · rw [fits, if_pos rfl]
    refine .inr ?_
    split
    · exact ⟨_, _, _, _, rfl, by rw [setCaddy_drive, record, cleared]⟩
    · exact ⟨_, _, _, _, rfl, by rw [record, cleared]⟩
  · rw [fails, if_neg Bool.false_ne_true]
    exact .inl ⟨_, _, by rw [drive_emit, record, cleared]⟩

theorem imageSelected_keepsLoop {d : DriveId} {s : State} (mode : (s.drive d).mode = .iecCommands) :
    KeepsLoop (s.drive d) ((imageSelected d s).drive d) := by
  obtain ⟨l, e, record⟩ | ⟨u, l, y, e, begins, record⟩ := imageSelected_cases d s
  · rw [record]
    exact .of rfl rfl rfl rfl rfl rfl rfl
  · have inserted : KeepsLoop (s.drive d) (u.drive d) := by
      rw [record]
      exact .of rfl rfl rfl rfl rfl rfl rfl
    rw [begins]
    exact inserted.trans (beginEmulating_keepsLoop (by rw [record]; exact mode))

theorem stateChange_keepsLoop (d : DriveId) (s : State) : KeepsLoop (s.drive d) ((stateChange d s).drive d) := by
  unfold stateChange
  split
  · exact .refl _
  · rw [drive_mod_self]
    exact .of rfl rfl rfl rfl rfl rfl rfl

theorem fastpathEvent_keepsLoop {o : FastPathOutcome} {d : DriveId} {s : State}
    (mode : (s.drive d).mode = .iecCommands) : KeepsLoop (s.drive d) ((fastpathEvent o d s).drive d) := by
  cases o with
  | imageSelected => exact imageSelected_keepsLoop mode
  | stateChange => exact stateChange_keepsLoop d s
  | fpReset => exact (busReset_control s.cfg d s).keepsLoop

theorem setResult_keepsLoop (d : DriveId) (r : OpResult) (s : State) :
    KeepsLoop (s.drive d) ((setResult d r s).drive d) := by
  rw [setResult_drive]
  exact .of rfl rfl rfl rfl rfl rfl rfl

theorem setCaddy_keepsLoop (d : DriveId) (y : Caddy) (s : State) :
    KeepsLoop (s.drive d) ((setCaddy d y s).drive d) := by
  rw [setCaddy_drive]
  exact .of rfl rfl rfl rfl rfl rfl rfl

theorem caddyInsert_keepsLoop (file : FileInfo) (ro : Bool) (d : DriveId) (s : State) :
    KeepsLoop (s.drive d) ((caddyInsert file ro d s).2.drive d) := by
  obtain ⟨img, e, _, _, _, record⟩ | ⟨e, _, record⟩ := caddyInsert_cases file ro d s <;>
    (rw [record]; exact .of rfl rfl rfl rfl rfl rfl rfl)

/-! ## The session -/

/-- A fast-boot step ends in fast boot or in the real-time phase: in the session either way (R168). -/
theorem fastbootStep_keepsLoop {d : DriveId} {s : State} (phase : (s.drive d).phase = .fastboot) :
    KeepsLoop (s.drive d) ((fastbootStep d s).drive d) := by
  have stepped := cpuStep_control s.cfg d s
  refine stepped.keepsLoop.trans ?_
  have busy : ((cpuStep d s).drive d).phase ≠ .idle := by simp [stepped.phase, phase]
  rw [fastbootStep, drive_mod_self]
  dsimp only
  split
  · refine ⟨rfl, rfl, fun ok => ?_⟩
    exact ⟨fun _ => ok.point busy, ok.chip1541, ok.chip1581, fun _ => ok.gate busy, fun _ => ok.exit busy, ok.down⟩
  · exact .of rfl rfl rfl rfl rfl rfl rfl

/-- A shutdown leaves the loop's terminal state: idle, and not counted (R191, R212 corner case 2). -/
theorem shutdown_keepsLoop {d : DriveId} {s : State} (mode : (s.drive d).mode = .iecCommands)
    (out : (s.drive d).session.inLoop = false) : KeepsLoop (s.drive d) ((shutdown d s).drive d) := by
  rw [shutdown, drive_emit, drive_mod_self]
  refine ⟨rfl, rfl, fun ok => ?_⟩
  constructor <;> simp [ok.idle mode, out]

/-- Step i writes no `InLoop` (R181). -/
theorem tickI_inLoop (d : DriveId) (s : State) :
    ((tickI d s).drive d).session.inLoop = (s.drive d).session.inLoop := by
  unfold tickI
  dsimp only
  split
  · simp [countTick]
  · simp [raiseExit_drive, countTick]

theorem tickI_keepsLoop (d : DriveId) (s : State) : KeepsLoop (s.drive d) ((tickI d s).drive d) := by
  have inLoop := tickI_inLoop d s
  obtain ⟨z, exit, record⟩ | ⟨r, z, _, _, record⟩ := tickI_cases d s <;> rw [record] at inLoop ⊢
  · exact .of rfl rfl rfl rfl rfl exit inLoop
  · refine ⟨rfl, inLoop, fun ok => ?_⟩
    exact ⟨fun busy => absurd rfl busy, ok.chip1541, ok.chip1581, fun busy => absurd rfl busy,
      fun busy => absurd rfl busy, fun down => inLoop.trans (ok.down down)⟩

theorem tickK_keepsLoop (d : DriveId) (s : State) : KeepsLoop (s.drive d) ((tickK d s).drive d) := by
  obtain ⟨_, _, z, served, _, inLoop, exit, _⟩ := serviceSwap_cases s.cfg (s.drive d)
  rw [tickK, drive_mod_self, served]
  exact .of rfl rfl rfl rfl rfl exit inLoop

theorem subStep_keepsLoop (t : TickStep) (d : DriveId) (s : State) :
    KeepsLoop (s.drive d) ((subStep t d s).drive d) := by
  cases t with
  | a => exact (tickA_control s.cfg d s).keepsLoop
  | b => exact (tickB_control s.cfg d s).keepsLoop
  | c => exact (tickC_control s.cfg d s).keepsLoop
  | d => exact (tickD_control s.cfg d s).keepsLoop
  | e => exact (tickE_control s.cfg d s).keepsLoop
  | f => exact (tickF_control s.cfg d s).keepsLoop
  | g => exact (tickG_control s.cfg d s).keepsLoop
  | h => exact (tickH_control d s).keepsLoop
  | i => exact tickI_keepsLoop d s
  | j => exact (tickJ_control s.cfg d s).keepsLoop
  | jx => exact (tickJX_control s.cfg d s).keepsLoop
  | k => exact tickK_keepsLoop d s

theorem runTick_keepsLoop (d : DriveId) (n : Nat) (ts : List TickStep) (s : State) :
    KeepsLoop (s.drive d) ((runTick d n ts s).drive d) := by
  induction n generalizing ts s with
  | zero => exact .refl _
  | succ n ih =>
    cases ts with
    | nil => exact .refl _
    | cons t ts =>
      dsimp only [runTick]
      split
      · exact subStep_keepsLoop t d s
      · exact (subStep_keepsLoop t d s).trans (ih _ _)

/-! ## Lock steps -/

/-- What the steps of a legal list guarantee of those after their first: a section is closed once and counts once, and
a session step is the last one (R167, R188, R211, R212). -/
def LegalAfter (t : LockStep) (ts : List LockStep) : Prop :=
  match t with
  | .acquire => .acquire ∉ ts ∧ .release ∈ ts
  | .countUp => .countUp ∉ ts ∧ .countDown ∉ ts
  | .countDown => .countUp ∉ ts ∧ .countDown ∉ ts
  | .release => .release ∉ ts
  | .enterSession => ts = []
  | .leaveSession => ts = []

theorem legalTodo_cons {t : LockStep} {ts : List LockStep} (h : legalTodo (t :: ts)) :
    legalTodo ts ∧ LegalAfter t ts := by
  simp only [legalTodo, emulateEnterSteps, emulateExitSteps, ddEnterSteps, ddExitSteps, List.cons_append,
    List.nil_append, List.tails, List.mem_cons, List.cons.injEq, reduceCtorEq, List.not_mem_nil, or_false,
    false_or] at h ⊢
  cases t <;> grind [LegalAfter]

theorem TodoOk.rest {x : Drive} {t : LockStep} {ts : List LockStep} (h : TodoOk x) (todo : x.todo = t :: ts) :
    TodoOk { x with todo := ts } := by
  have later {u : LockStep} (m : u ∈ ts) : u ∈ x.todo := todo ▸ List.mem_cons_of_mem t m
  exact ⟨(legalTodo_cons (todo ▸ h.legal)).1, h.up ∘ later, h.down ∘ later, h.enter ∘ later, h.leave ∘ later⟩

theorem TodoOk.after {x : Drive} {t : LockStep} {ts : List LockStep} (h : TodoOk x) (todo : x.todo = t :: ts) :
    LegalAfter t ts :=
  (legalTodo_cons (todo ▸ h.legal)).2

theorem SessionOk.setTodo {x : Drive} (h : SessionOk x) (ts : List LockStep) : SessionOk { x with todo := ts } :=
  ⟨h.point, h.chip1541, h.chip1581, h.gate, h.exit, h.down⟩

/-- Outside the terminal mode a drive may count itself or not (R212 corner case 2). -/
theorem SessionOk.setInLoop {x : Drive} (h : SessionOk x) (alive : x.mode ≠ .emulationShutdown) (b : Bool)
    (ts : List LockStep) : SessionOk { x with session := { x.session with inLoop := b }, todo := ts } :=
  ⟨h.point, h.chip1541, h.chip1581, h.gate, h.exit, fun down => absurd down alive⟩

@[simp] theorem setTodo_drive (d : DriveId) (ts : List LockStep) (s : State) :
    (setTodo d ts s).drive d = { s.drive d with todo := ts } := by
  simp [setTodo]

theorem setTodo_outside (d : DriveId) (ts : List LockStep) (s : State) : SameOutside d s (setTodo d ts s) :=
  mod_outside _ _ _

/-- A step that is neither end of the locked section leaves its drive as far inside the section as before. -/
theorem holdsLock_rest {x y : Drive} {t : LockStep} {ts : List LockStep} (todo : x.todo = t :: ts) (left : y.todo = ts)
    (start : t ≠ .acquire) (finish : t ≠ .release) : holdsLock y ↔ holdsLock x := by
  simp [holdsLock, todo, left, start.symm, finish.symm]

/-- A lock step that leaves the lock alone: only the record and the counter are left to be fitted. -/
theorem lockStep_inside_loopInv {d : DriveId} {t : LockStep} {ts : List LockStep} {s : State} (h : LoopInv s)
    (todo : (s.drive d).todo = t :: ts) (start : t ≠ .acquire) (finish : t ≠ .release)
    (lock : (lockStep d t s).lock = s.lock)
    (count : (lockStep d t s).dualDrive - counted ((lockStep d t s).drive d) = s.dualDrive - counted (s.drive d))
    (todoOk : TodoOk { (lockStep d t s).drive d with todo := ts })
    (session : SessionOk { (lockStep d t s).drive d with todo := ts }) :
    LoopInv (setTodo d ts (lockStep d t s)) := by
  have o := setTodo_outside d ts (lockStep d t s)
  refine h.change (o.other.trans (lockStep_other d t s)) ?_ ?_ ?_ (by rwa [setTodo_drive]) (by rwa [setTodo_drive])
  · rw [o.dualDrive, setTodo_drive]
    exact count
  · rw [o.lock, lock, h.arbiter.lock d, setTodo_drive]
    exact (holdsLock_rest todo rfl start finish).symm
  · rw [o.lock, lock]

/-- `Acquire` and `Release` write the lock alone (R210). -/
theorem setLock_loopInv {d : DriveId} {t : LockStep} {ts : List LockStep} {s : State} {l : Lock} (h : LoopInv s)
    (todo : (s.drive d).todo = t :: ts) (own : l = .held d ↔ .release ∈ ts ∧ .acquire ∉ ts)
    (others : l = .held d.other ↔ s.lock = .held d.other) : LoopInv (setTodo d ts { s with lock := l }) := by
  refine h.change (d := d) (by simp [setTodo]) ?_ ?_ ?_ ?_ ?_
  · simp [setTodo, counted]
  · simpa [setTodo, holdsLock] using own
  · simpa [setTodo] using others
  · simpa using (h.arbiter.todo d).rest todo
  · simpa using (h.session d).setTodo ts

theorem acquire_loopInv {d : DriveId} {ts : List LockStep} {s : State} (h : LoopInv s)
    (todo : (s.drive d).todo = .acquire :: ts) (free : s.lock = .free) :
    LoopInv (setTodo d ts (lockStep d .acquire s)) := by
  obtain ⟨once, closed⟩ := (h.arbiter.todo d).after todo
  exact setLock_loopInv h todo (by simp [once, closed]) (by simp [free])

theorem release_loopInv {d : DriveId} {ts : List LockStep} {s : State} (h : LoopInv s)
    (todo : (s.drive d).todo = .release :: ts) (held : s.lock = .held d) :
    LoopInv (setTodo d ts (lockStep d .release s)) := by
  have closed : .release ∉ ts := (h.arbiter.todo d).after todo
  exact setLock_loopInv h todo (by simp [closed]) (by simp [held])

/-- The counting steps write `InLoop` and the counter, and no counting step follows them (R211, R212). -/
theorem setInLoop_loopInv {d : DriveId} {t : LockStep} {ts : List LockStep} {s : State} {b : Bool} (h : LoopInv s)
    (todo : (s.drive d).todo = t :: ts) (start : t ≠ .acquire) (finish : t ≠ .release)
    (alive : (s.drive d).mode ≠ .emulationShutdown) (once : .countUp ∉ ts ∧ .countDown ∉ ts)
    (step : ∃ n, lockStep d t s = setInLoop d b { s with dualDrive := n } ∧
      n - (if b then 1 else 0) = s.dualDrive - counted (s.drive d)) :
    LoopInv (setTodo d ts (lockStep d t s)) := by
  obtain ⟨n, writes, count⟩ := step
  have record : (lockStep d t s).drive d =
      { s.drive d with session := { (s.drive d).session with inLoop := b } } := by
    simp [writes, setInLoop, Drive.modSession]
  have fits := (h.arbiter.todo d).rest todo
  refine lockStep_inside_loopInv h todo start finish ?_ ?_ ?_ ?_
  · simp [writes, setInLoop]
  · rw [record]
    simpa [writes, setInLoop, counted] using count
  · rw [record]
    exact ⟨fits.legal, fun up => absurd up once.1, fun down => absurd down once.2, fits.enter, fits.leave⟩
  · rw [record]
    exact (h.session d).setInLoop alive b ts

theorem countUp_loopInv {d : DriveId} {ts : List LockStep} {s : State} (h : LoopInv s)
    (todo : (s.drive d).todo = .countUp :: ts) (alive : (s.drive d).mode ≠ .emulationShutdown) :
    LoopInv (setTodo d ts (lockStep d .countUp s)) := by
  have outside := (h.arbiter.todo d).up (by simp [todo])
  exact setInLoop_loopInv h todo (by decide) (by decide) alive ((h.arbiter.todo d).after todo)
    ⟨_, rfl, by simp [counted, outside]⟩

theorem countDown_loopInv {d : DriveId} {ts : List LockStep} {s : State} (h : LoopInv s)
    (todo : (s.drive d).todo = .countDown :: ts) (alive : (s.drive d).mode ≠ .emulationShutdown) :
    LoopInv (setTodo d ts (lockStep d .countDown s)) := by
  have inside := (h.arbiter.todo d).down (by simp [todo])
  exact setInLoop_loopInv h todo (by decide) (by decide) alive ((h.arbiter.todo d).after todo)
    ⟨_, rfl, by simp [counted, inside]⟩

/-- `EMULATE_ENTER` ends by entering the session with the lines released, which satisfies either gate (R167, R138). -/
theorem enterSession_loopInv {d : DriveId} {ts : List LockStep} {s : State} (h : LoopInv s)
    (todo : (s.drive d).todo = .enterSession :: ts) :
    LoopInv (setTodo d ts (lockStep d .enterSession s)) := by
  obtain rfl : ts = [] := (h.arbiter.todo d).after todo
  obtain ⟨mode, _⟩ := (h.arbiter.todo d).enter (by simp [todo])
  have o := enterSession_outside d s
  have ok := h.session d
  obtain ⟨_, _, head, _, record⟩ := enterSession_drive d s
  refine lockStep_inside_loopInv h todo (by decide) (by decide) o.lock ?_ (todoOk_of_nil rfl) ?_
  · simp only [lockStep, record, o.dualDrive]
    rfl
  · simp only [lockStep, record]
    exact ⟨fun _ => mode, ok.chip1541, ok.chip1581, fun _ => by cases (s.drive d).chipKind <;> rfl, fun _ => rfl,
      ok.down⟩

/-- `EMULATE_EXIT` ends by leaving the emulating mode, at an idle control point (R188). -/
theorem leaveSession_loopInv {d : DriveId} {ts : List LockStep} {s : State} (h : LoopInv s)
    (todo : (s.drive d).todo = .leaveSession :: ts) :
    LoopInv (setTodo d ts (lockStep d .leaveSession s)) := by
  obtain rfl : ts = [] := (h.arbiter.todo d).after todo
  obtain ⟨_, idle, _⟩ := (h.arbiter.todo d).leave (by simp [todo])
  have o := leaveSession_outside d s
  refine lockStep_inside_loopInv h todo (by decide) (by decide) o.lock ?_ (todoOk_of_nil rfl) ?_
  · simp only [lockStep, leaveSession_drive, o.dualDrive]
    rfl
  · simp only [lockStep, leaveSession_drive]
    constructor <;> simp [idle]

/-- An enabled lock step keeps the invariant, the steps after it left to take. -/
theorem lockStep_loopInv {d : DriveId} {t : LockStep} {ts : List LockStep} {s : State} (h : LoopInv s)
    (todo : (s.drive d).todo = t :: ts) (alive : (s.drive d).mode ≠ .emulationShutdown)
    (enabled : stepEnabled d t s = true) : LoopInv (setTodo d ts (lockStep d t s)) := by
  cases t with
  | acquire => exact acquire_loopInv h todo (of_decide_eq_true enabled)
  | release => exact release_loopInv h todo (of_decide_eq_true enabled)
  | countUp => exact countUp_loopInv h todo alive
  | countDown => exact countDown_loopInv h todo alive
  | enterSession => exact enterSession_loopInv h todo
  | leaveSession => exact leaveSession_loopInv h todo

theorem setTodo_setTodo (d : DriveId) (ts us : List LockStep) (s : State) :
    setTodo d us (setTodo d ts s) = setTodo d us s := by
  simp [setTodo]

theorem stepEnabled_setTodo (d : DriveId) (t : LockStep) (ts : List LockStep) (s : State) :
    stepEnabled d t (setTodo d ts s) = stepEnabled d t s :=
  stepEnabled_pause d ts s.unbroken s t

/-- No lock step reads the steps that are left. -/
theorem lockStep_setTodo (d : DriveId) (t : LockStep) (ts : List LockStep) (s : State) :
    lockStep d t (setTodo d ts s) = setTodo d ts (lockStep d t s) := by
  obtain ⟨_, _, _, _, _, unbroken⟩ := lockStep_keeps d t s
  exact (lockStep_pause d ts s.unbroken s t).trans (pause_self unbroken)

/-- However many of its steps an operation takes now, it keeps the invariant: what holds with all of them to take holds
with the rest to take (R11). -/
theorem runSteps_loopInv {d : DriveId} {ts : List LockStep} {s : State} (n : Nat) (h : LoopInv (setTodo d ts s))
    (alive : (s.drive d).mode ≠ .emulationShutdown) : LoopInv (runSteps d n ts s) := by
  induction n generalizing ts s with
  | zero => exact h
  | succ n ih =>
    cases ts with
    | nil => exact h
    | cons t ts =>
      rw [runSteps]
      split <;> rename_i enabled
      · refine ih ?_ (lockStep_alive alive)
        have taken := lockStep_loopInv (d := d) (t := t) (ts := ts) h (by simp) (by simpa using alive)
          (by rwa [stepEnabled_setTodo])
        rwa [lockStep_setTodo, setTodo_setTodo] at taken
      · exact h

/-- A drive that has only resolved to take the steps of an operation is still outside its locked section. -/
theorem loopInv_setTodo {d : DriveId} {ts : List LockStep} {s : State} (h : LoopInv s) (idle : (s.drive d).todo = [])
    (opens : .acquire ∈ ts) (fits : TodoOk { s.drive d with todo := ts }) : LoopInv (setTodo d ts s) := by
  have o := setTodo_outside d ts s
  refine h.change o.other ?_ ?_ (by rw [o.lock]) (by rwa [setTodo_drive]) ?_
  · rw [o.dualDrive, setTodo_drive]
    rfl
  · rw [o.lock, h.arbiter.lock d, setTodo_drive]
    exact iff_of_false (not_holdsLock_of_nil idle) fun inside => inside.2 opens
  · rw [setTodo_drive]
    exact (h.session d).setTodo ts

theorem todoOk_ddEnter {x : Drive} (out : x.session.inLoop = false) : TodoOk { x with todo := ddEnterSteps } := by
  constructor <;> simp [legalTodo, ddEnterSteps, out]

theorem todoOk_ddExit {x : Drive} (inside : x.session.inLoop = true) : TodoOk { x with todo := ddExitSteps } := by
  constructor <;> simp [legalTodo, ddExitSteps, inside]

theorem todoOk_emulateEnter {x : Drive} (enters : mayEnter x = true) : TodoOk { x with todo := emulateEnterSteps } := by
  obtain ⟨mode, idle, out⟩ := mayEnter_iff.1 enters
  constructor <;> simp [legalTodo, emulateEnterSteps, ddEnterSteps, mode, idle, out]

theorem todoOk_emulateExit {x : Drive} (leaves : mayLeave x = true) : TodoOk { x with todo := emulateExitSteps } := by
  obtain ⟨mode, idle, exits, inside⟩ := mayLeave_iff.1 leaves
  constructor <;> simp [legalTodo, emulateExitSteps, ddExitSteps, mode, idle, exits, inside]

/-! ## Operations and moves -/

/-- An accepted operation that the arbiter does not see keeps the invariant. -/
theorem accept_loopInv {s t : State} {pre : Drive → Bool} {op : DriveId → State → State} (inv : LoopInv s)
    (h : accept s pre op = .next t) (o : SameOutside s.cur s (op s.cur s))
    (keeps : pre s.self = true → KeepsLoop s.self ((op s.cur s).drive s.cur)) : LoopInv t := by
  obtain ⟨⟨_, _, idle⟩, place, rfl⟩ := accept_next.1 h
  have k := keeps place
  exact inv.keep o k (todoOk_of_nil (k.todo.trans idle))

/-- The same of an operation that keeps the control of its drive wherever it is issued. -/
theorem accept_loopInv_of_control {s t : State} {pre : Drive → Bool} {op : DriveId → State → State} (inv : LoopInv s)
    (h : accept s pre op = .next t) (o : SameOutside s.cur s (op s.cur s))
    (control : SameControl s.cfg s.self ((op s.cur s).drive s.cur)) : LoopInv t :=
  accept_loopInv inv h o fun _ => control.keepsLoop

/-- An accepted operation of several steps keeps the invariant wherever it is interrupted. -/
theorem accept_startSteps_loopInv {s t : State} {pre : Drive → Bool} {ts : List LockStep} (inv : LoopInv s)
    (h : accept s pre (startSteps ts) = .next t) (opens : .acquire ∈ ts)
    (fits : pre s.self = true → TodoOk { s.self with todo := ts }) : LoopInv t := by
  obtain ⟨⟨_, alive, idle⟩, place, rfl⟩ := accept_next.1 h
  exact runSteps_loopInv _ (loopInv_setTodo inv idle opens (fits place)) alive

theorem tickInstr_loopInv (n : TickStep) {s t : State} (inv : LoopInv s) (h : exec (tickInstr n) s = .next t) :
    LoopInv t := by
  rw [exec_tickInstr] at h
  exact accept_loopInv inv h (subStep_outside n _ _) fun _ => subStep_keepsLoop n _ _

theorem inIecCommands_iff {x : Drive} : inIecCommands x = true ↔ x.mode = .iecCommands := by
  simp [inIecCommands]

theorem exec_loopInv {i : Instr} {s t : State} (inv : LoopInv s) (h : exec i s = .next t) : LoopInv t := by
  have iec {p : Drive} := @inIecCommands_iff p
  cases i with
  | busReset => exact accept_loopInv_of_control inv h (busReset_outside _ _) (busReset_control _ _ _)
  | readBrowse => exact accept_loopInv inv h (readBrowse_outside _ _) fun p => readBrowse_keepsLoop (iec.1 p)
  | readEmu1541 => exact accept_loopInv_of_control inv h (readEmu1541_outside _ _) (readEmu1541_control _ _ _)
  | readEmu1581 => exact accept_loopInv_of_control inv h (readEmu1581_outside _ _) (readEmu1581_control _ _ _)
  | refresh1541 => exact accept_loopInv_of_control inv h (refresh_outside _ _) (refresh_control _ _ _)
  | refresh1581 => exact accept_loopInv_of_control inv h (refresh_outside _ _) (refresh_control _ _ _)
  | portBOut status => exact accept_loopInv_of_control inv h (portBOut_outside _ _ _) (portBOut_control _ _ _ _)
  | setSrqOut b => exact accept_loopInv_of_control inv h (setSrqOut_outside _ _ _) (setSrqOut_control _ _ _ _)
  | pollButtons => exact accept_loopInv_of_control inv h (pollButtons_outside _ _) (pollButtons_control _ _)
  | fastpathEvent o =>
    exact accept_loopInv inv h (fastpathEvent_outside _ _ _) fun p => fastpathEvent_keepsLoop (iec.1 p)
  | beginEmulating =>
    refine accept_loopInv inv h (beginEmulating_outside _ _) fun p => beginEmulating_keepsLoop ?_
    exact of_decide_eq_true (Bool.and_eq_true_iff.1 p).1
  | emulateEnter => exact accept_startSteps_loopInv inv h (by decide) todoOk_emulateEnter
  | fastbootStep =>
    refine accept_loopInv inv h (fastbootStep_outside _ _) fun p => fastbootStep_keepsLoop ?_
    exact of_decide_eq_true (Bool.and_eq_true_iff.1 p).2
  | tick => exact accept_loopInv inv h (tick_outside _ _) fun _ => runTick_keepsLoop _ _ _ _
  | emulateExit => exact accept_startSteps_loopInv inv h (by decide) todoOk_emulateExit
  | shutdown =>
    refine accept_loopInv inv h (shutdown_outside _ _) fun p => ?_
    simp only [mayShutDown, Bool.and_eq_true, decide_eq_true_eq, Bool.not_eq_true'] at p
    exact shutdown_keepsLoop p.1.1 p.2
  | ddEnter => exact accept_startSteps_loopInv inv h (by decide) fun p => todoOk_ddEnter (by simpa [outOfLoop] using p)
  | ddExit => exact accept_startSteps_loopInv inv h (by decide) todoOk_ddExit
  | caddyInsert ro =>
    exact accept_loopInv inv h (insertImage_outside _ _ _) fun _ =>
      (caddyInsert_keepsLoop _ _ _ _).trans (setResult_keepsLoop _ _ _)
  | selectFirst =>
    exact accept_loopInv inv h (selectFirst_outside _ _) fun _ =>
      (setCaddy_keepsLoop _ _ _).trans (setResult_keepsLoop _ _ _)
  | selectImage n =>
    exact accept_loopInv inv h (selectImage_outside _ _ _) fun _ =>
      (setCaddy_keepsLoop _ _ _).trans (setResult_keepsLoop _ _ _)
  | nextDisk => exact accept_loopInv inv h (nextDisk_outside _ _) fun _ => setCaddy_keepsLoop _ _ _
  | prevDisk => exact accept_loopInv inv h (prevDisk_outside _ _) fun _ => setCaddy_keepsLoop _ _ _
  | getCount => exact accept_loopInv inv h (getCount_outside _ _) fun _ => setResult_keepsLoop _ _ _
  | tickA => exact tickInstr_loopInv .a inv h
  | tickB => exact tickInstr_loopInv .b inv h
  | tickC => exact tickInstr_loopInv .c inv h
  | tickD => exact tickInstr_loopInv .d inv h
  | tickE => exact tickInstr_loopInv .e inv h
  | tickF => exact tickInstr_loopInv .f inv h
  | tickG => exact tickInstr_loopInv .g inv h
  | tickH => exact tickInstr_loopInv .h inv h
  | tickI => exact tickInstr_loopInv .i inv h
  | tickJ => exact tickInstr_loopInv .j inv h
  | tickJX => exact tickInstr_loopInv .jx inv h
  | tickK => exact tickInstr_loopInv .k inv h

theorem issueWord_loopInv {d : DriveId} {word : CommandWord} {side : SideData} {n : Nat} {s t : State}
    (inv : LoopInv s) (h : issueWord d word side n s = .next t) : LoopInv t := by
  unfold issueWord at h
  split at h
  · exact exec_loopInv (loopInv_focus inv d side n) h
  · cases h

/-- The loop starts an operation of several steps only where its precondition holds (R165). -/
theorem loopStep_start {x : Drive} {ts : List LockStep} (h : loopStep x = .start ts) :
    .acquire ∈ ts ∧ TodoOk { x with todo := ts } := by
  unfold loopStep at h
  split at h
  · split at h
    · cases h
    · cases h
    · split at h <;> rename_i enters
      · cases h
        exact ⟨by decide, todoOk_emulateEnter enters⟩
      · split at h <;> rename_i leaves
        · cases h
          exact ⟨by decide, todoOk_emulateExit leaves⟩
        · cases h
  · cases h

theorem advance_loopInv {d : DriveId} {s t : State} (inv : LoopInv s) (h : advance d s = .next t) : LoopInv t := by
  unfold advance at h
  split at h
  · split at h <;> rename_i alive
    · cases h
    · split at h <;> rename_i todo
      · cases h
        refine runSteps_loopInv 1 ?_ alive
        rwa [← todo, setTodo, mod_eq_self _ _ _ rfl]
      · split at h <;> rename_i next
        · exact exec_loopInv (loopInv_focus inv _ _ _) h
        · cases h
          obtain ⟨opens, fits⟩ := loopStep_start next
          exact runSteps_loopInv 1 (loopInv_setTodo inv todo opens fits) alive
        · cases h
          exact inv
  · cases h

/-- A latch is no part of the invariant (R35). -/
theorem request_loopInv {d : DriveId} {r : Request} {s t : State} (inv : LoopInv s) (h : request d r s = .next t) :
    LoopInv t := by
  unfold request at h
  split at h
  · cases h
    have fits := inv.arbiter.todo d
    refine inv.keep (mod_outside s d _) ?_ ?_ <;> rw [drive_mod_self]
    · exact .of rfl rfl rfl rfl rfl rfl rfl
    · exact ⟨fits.legal, fits.up, fits.down, fits.enter, fits.leave⟩
  · cases h

/-- Settles O54: an operation that the arbiter does not see keeps what it sees, and the arbiter's own operations keep
the invariant lock step by lock step, with the steps left to take as a part of it. -/
theorem stepKeepsLoopInvariant : Obligations.StepKeepsLoopInvariant := by
  intro s t inv h
  unfold step runAgenda at h
  split at h
  · cases h
    exact inv
  · rename_i m rest _
    have taken := loopInv_agenda inv rest
    cases m with
    | issue d word side n => exact issueWord_loopInv taken h
    | advance d => exact advance_loopInv taken h
    | request d r => exact request_loopInv taken h

end Sys2Proof.Machine
end

-- ==== Requests, the software loopback and power-on ====
section
/-! SUPPORT. The request move (`10_state.md` R35), the loopback invariant after the operations that write the lines it
speaks of (R24), and the invariants right after power-on (`70_reset_and_hazards.md` R272). -/

namespace Sys2Proof.Machine

/-! ## Requests -/

theorem request_eq {d : DriveId} {r : Request} {s : State} (present : s.present d = true) :
    request d r s = .next (s.mod d fun x => x.modLatches (setLatch s.cfg r)) := by
  rw [request, if_pos present]

@[simp] theorem present_agenda (s : State) (ms : List Move) (d : DriveId) :
    ({ s with agenda := ms } : State).present d = s.present d := by
  cases d <;> rfl

/-- Settles O6: the move is `setLatch` on the latches of its drive, and each kind of request writes its own latch. -/
theorem requestSetsLatch : Obligations.RequestSetsLatch := by
  intro s d r rest agenda present
  rw [step_eq_runMove agenda, runMove, request_eq (by simpa using present)]
  refine congrArg _ (mod_congr _ _ _ _ ?_)
  rw [drive_agenda]
  cases r <;> rfl

/-! ## Loopback -/

/-- A line that the drive pulls itself reads asserted (R112). -/
theorem loopback_driven {driven sensed : Bool} (h : driven = true) : loopback driven sensed = true := by
  simp [loopback, h]

/-- `PORTB_OUT` sets the sensed flag of each line it now pulls (R131 step 5). -/
theorem portBOut_loopbackOk (status : Byte) (d : DriveId) (s : State) :
    LoopbackOk ((portBOut status d s).drive d) := by
  rw [portBOut_drive]
  exact ⟨fun pulled => loopback_driven (by rwa [Bool.or_comm]), loopback_driven⟩

/-- A read that the unsupported configuration makes a no-op keeps the lines, so it is enough to look at the other
(R116). -/
theorem read_loopbackOk {d : DriveId} {s t : State} (noOp : splitUnsupported s.cfg = true → t = notImpl d s)
    (reads : splitUnsupported s.cfg = false → LoopbackOk (t.drive d))
    (h : splitUnsupported s.cfg = false ∨ LoopbackOk (s.drive d)) : LoopbackOk (t.drive d) := by
  cases supported : splitUnsupported s.cfg
  · exact reads supported
  · have before := h.resolve_left (by simp [supported])
    rw [noOp supported, notImpl_drive]
    exact ⟨before.data, before.clock⟩

/-- Both emulation reads loop the driven lines back (R114, R115). -/
theorem readEmu1541_loopbackOk {d : DriveId} {s : State}
    (h : splitUnsupported s.cfg = false ∨ LoopbackOk (s.drive d)) : LoopbackOk ((readEmu1541 d s).drive d) := by
  refine read_loopbackOk (fun unsupported => by simp [readEmu1541, unsupported]) (fun supported => ?_) h
  rw [readEmu1541_drive d s supported]
  exact ⟨fun pulled => loopback_driven (by rwa [Bool.or_comm]), loopback_driven⟩

theorem readEmu1581_loopbackOk {d : DriveId} {s : State}
    (h : splitUnsupported s.cfg = false ∨ LoopbackOk (s.drive d)) : LoopbackOk ((readEmu1581 d s).drive d) := by
  refine read_loopbackOk (fun unsupported => by simp [readEmu1581, unsupported]) (fun supported => ?_) h
  rw [readEmu1581_drive d s supported]
  exact ⟨fun pulled => loopback_driven (by rwa [Bool.or_comm]), loopback_driven⟩

/-- Settles O13: the operation computes the sensed flag of a driven line by `loopback`, or leaves the lines alone. -/
theorem loopbackAfterBusOperations : Obligations.LoopbackAfterBusOperations := by
  refine fun s t i h => ⟨?_, ?_⟩
  · rintro ⟨status, rfl⟩
    obtain ⟨_, _, rfl⟩ := accept_next.1 h
    exact portBOut_loopbackOk _ _ _
  · rintro (rfl | rfl) supported <;> obtain ⟨_, _, rfl⟩ := accept_next.1 h
    · exact readEmu1541_loopbackOk supported
    · exact readEmu1581_loopbackOk supported

/-! ## Power-on -/

/-- Each drive starts as its boot inputs say (R272). -/
theorem powerOn_drive (c : Config) (out0 out1 : DriveVector) (head0 head1 : HeadValue) (before0 before1 : Timestamp)
    (d : DriveId) : ∃ b, (State.powerOn c out0 out1 head0 head1 before0 before1).drive d = Drive.powerOn c b := by
  cases d <;> exact ⟨_, rfl⟩

theorem powerOn_sessionOk (c : Config) (b : DriveBoot) : SessionOk (Drive.powerOn c b) := by
  constructor <;> simp [Drive.powerOn, Session.powerOn]

theorem powerOn_caddyOk (c : Config) (b : DriveBoot) : CaddyOk c (Drive.powerOn c b).caddy :=
  ⟨Nat.zero_le _, .inl ⟨rfl, rfl⟩⟩

/-- Power-on is outside every session, so the drive model needs no image (R233). -/
theorem powerOn_imageOk (c : Config) (b : DriveBoot) : ImageOk (Drive.powerOn c b) :=
  fun emulating => absurd emulating Bool.false_ne_true

/-- A button that no poll has seen is right because its count 0 is below the threshold (R36, P6). -/
theorem powerOn_buttonOk {c : Config} (threshold : 1 ≤ c.debounceThreshold) : ButtonOk c Button.powerOn := by
  constructor <;> simp [Button.powerOn]
  omega

theorem powerOn_debounceOk {c : Config} (threshold : 1 ≤ c.debounceThreshold) (b : DriveBoot) :
    DebounceOk c (Drive.powerOn c b) := by
  refine ⟨List.length_map _, fun button h => ?_⟩
  obtain ⟨_, _, rfl⟩ := List.mem_map.1 h
  exact powerOn_buttonOk threshold

section
variable (c : Config) (out0 out1 : DriveVector) (head0 head1 : HeadValue) (before0 before1 : Timestamp)

theorem powerOn_loopInv : LoopInv (State.powerOn c out0 out1 head0 head1 before0 before1) := by
  refine ⟨⟨rfl, fun d => ?_, fun d => ?_⟩, fun d => ?_⟩ <;>
    obtain ⟨b, record⟩ := powerOn_drive c out0 out1 head0 head1 before0 before1 d <;> rw [record]
  · exact iff_of_false (fun held => by cases held) (not_holdsLock_of_nil rfl)
  · exact todoOk_of_nil rfl
  · exact powerOn_sessionOk c b

theorem powerOn_caddyInv : CaddyInv (State.powerOn c out0 out1 head0 head1 before0 before1) := by
  refine ⟨fun d => ?_, fun d => ?_⟩ <;>
    obtain ⟨b, record⟩ := powerOn_drive c out0 out1 head0 head1 before0 before1 d <;> rw [record]
  · exact powerOn_caddyOk c b
  · exact powerOn_imageOk c b

/-- The machine after power-on meets the invariants, whatever the boot inputs (R272). -/
theorem powerOn_invariants (threshold : 1 ≤ c.debounceThreshold) :
    LoopInv (State.powerOn c out0 out1 head0 head1 before0 before1) ∧
      CaddyInv (State.powerOn c out0 out1 head0 head1 before0 before1) ∧
      ∀ d, DebounceOk c ((State.powerOn c out0 out1 head0 head1 before0 before1).drive d) := by
  refine ⟨powerOn_loopInv .., powerOn_caddyInv .., fun d => ?_⟩
  obtain ⟨b, record⟩ := powerOn_drive c out0 out1 head0 head1 before0 before1 d
  rw [record]
  exact powerOn_debounceOk threshold b

end

/-- Settles O57: both drives start idle, uncounted and with nothing left to take; `State.reset` is one choice of the
boot inputs. -/
theorem powerOnMeetsInvariants : Obligations.PowerOnMeetsInvariants :=
  ⟨powerOn_invariants, powerOn_invariants _ _ _ _ _ _ _ (by decide)⟩

end Sys2Proof.Machine
end

-- ==== The command word ====
section
/-! SUPPORT. The encoding as a table of rows (`30_encoding.md` R82): the selector of a word names its row, and the
row's format (R81) says what the operand byte means. The decoder is followed once, row by row; what is claimed of the
words comes down to the four formats. -/

namespace Sys2Proof

/-! ## The two fields of a word -/

@[simp] theorem opField_commandWord (arg op : Byte) : opField (commandWord arg op) = op :=
  BitVec.extractLsb'_append_eq_right

@[simp] theorem argField_commandWord (arg op : Byte) : argField (commandWord arg op) = arg :=
  BitVec.extractLsb'_append_eq_left

/-- A word has no bit outside its two fields (R80). -/
theorem commandWord_fields (w : CommandWord) : commandWord (argField w) (opField w) = w :=
  BitVec.extractLsb'_append_extractLsb' (w := 8) (len := 8)

/-! ## The operand formats -/

/-- Format N takes the byte 0 alone (R81). -/
theorem formatN_eq_ok {arg : Byte} {i j : Instr} : formatN arg i = .ok j ↔ arg = 0 ∧ i = j := by
  unfold formatN
  split <;> rename_i h
  · simp [h]
  · exact iff_of_false (by simp) fun ⟨zero, _⟩ => h zero

theorem formatN_reserved {arg : Byte} (i : Instr) (h : arg ≠ 0) : formatN arg i = .error .operand :=
  if_neg h

/-- A byte without a bit above bit 0 is the flag in bit 0. -/
theorem flag_of_clear :
    ∀ arg : Byte, arg.extractLsb' 1 7 = 0 → (BitVec.ofBool (arg.getLsbD 0)).setWidth 8 = arg := by
  decide

/-- Format B takes the bytes of the two flags alone (R81). -/
theorem formatB_eq_ok {arg : Byte} {f : Bool → Instr} {j : Instr} :
    formatB arg f = .ok j ↔ ∃ b, (BitVec.ofBool b).setWidth 8 = arg ∧ f b = j := by
  constructor
  · intro h
    unfold formatB at h
    split at h <;> rename_i clear
    · exact ⟨_, flag_of_clear arg clear, Except.ok.inj h⟩
    · cases h
  · rintro ⟨b, rfl, rfl⟩
    cases b <;> rfl

theorem formatB_reserved {arg : Byte} (f : Bool → Instr) (h : arg.extractLsb' 1 7 ≠ 0) :
    formatB arg f = .error .operand :=
  if_neg h

/-- A byte without a bit above bit 1 is the two-bit code in bits 1 and 0. -/
theorem code_of_clear : ∀ arg : Byte, arg.extractLsb' 2 6 = 0 → (arg.extractLsb' 0 2).setWidth 8 = arg := by
  decide

/-- A code names the outcome that has it (R91). -/
theorem codeOfOutcome_of_named {code : BitVec 2} {o : FastPathOutcome} (h : outcomeOfCode code = some o) :
    codeOfOutcome o = code := by
  unfold outcomeOfCode at h
  split at h <;> cases h <;> rfl

/-- Format E takes the bytes of the three outcome codes alone (R81, R91). -/
theorem formatE_eq_ok {arg : Byte} {f : FastPathOutcome → Instr} {j : Instr} :
    formatE arg f = .ok j ↔ ∃ o, (codeOfOutcome o).setWidth 8 = arg ∧ f o = j := by
  constructor
  · intro h
    unfold formatE at h
    split at h <;> rename_i clear
    · split at h <;> rename_i named
      · exact ⟨_, by rw [codeOfOutcome_of_named named, code_of_clear arg clear], Except.ok.inj h⟩
      · cases h
    · cases h
  · rintro ⟨o, rfl, rfl⟩
    cases o <;> rfl

theorem formatE_reserved {arg : Byte} (f : FastPathOutcome → Instr) (h : arg.extractLsb' 2 6 ≠ 0) :
    formatE arg f = .error .operand :=
  if_neg h

/-! ## The rows of the table -/

/-- How the row of an operation reads an operand byte (R81, R82); the operand that `i` itself has does not matter. -/
def readRow (i : Instr) (arg : Byte) : Except Reserved Instr :=
  match i with
  | .portBOut _ => formatByte arg .portBOut
  | .selectImage _ => formatByte arg .selectImage
  | .setSrqOut _ => formatB arg .setSrqOut
  | .caddyInsert _ => formatB arg .caddyInsert
  | .fastpathEvent _ => formatE arg .fastpathEvent
  | i => formatN arg i

/-- The decoder reads the row that the selector names. -/
theorem decode_eq_readRow {w : CommandWord} {i : Instr} (h : opField w = selectorOf i) :
    decode w = readRow i (argField w) := by
  unfold decode
  rw [h]
  cases i <;> rfl

/-- The operand of an operation is read back. -/
theorem readRow_operandOf (i : Instr) : readRow i (operandOf i) = .ok i := by
  cases i with
  | portBOut status => rfl
  | selectImage index => rfl
  | setSrqOut b => exact formatB_eq_ok.2 ⟨b, rfl, rfl⟩
  | caddyInsert readOnly => exact formatB_eq_ok.2 ⟨readOnly, rfl, rfl⟩
  | fastpathEvent o => exact formatE_eq_ok.2 ⟨o, rfl, rfl⟩
  | _ => exact formatN_eq_ok.2 ⟨rfl, rfl⟩

/-- What a row reads is an operation of that row, with the byte as its operand. -/
theorem fields_of_readRow {i j : Instr} {arg : Byte} (h : readRow i arg = .ok j) :
    selectorOf j = selectorOf i ∧ operandOf j = arg := by
  cases i with
  | portBOut _ =>
    cases h
    exact ⟨rfl, rfl⟩
  | selectImage _ =>
    cases h
    exact ⟨rfl, rfl⟩
  | setSrqOut _ =>
    obtain ⟨b, byte, rfl⟩ := formatB_eq_ok.1 h
    exact ⟨rfl, byte⟩
  | caddyInsert _ =>
    obtain ⟨b, byte, rfl⟩ := formatB_eq_ok.1 h
    exact ⟨rfl, byte⟩
  | fastpathEvent _ =>
    obtain ⟨o, byte, rfl⟩ := formatE_eq_ok.1 h
    exact ⟨rfl, byte⟩
  | _ =>
    obtain ⟨rfl, rfl⟩ := formatN_eq_ok.1 h
    exact ⟨rfl, rfl⟩

/-- The operations of format N. -/
def plainRows : List Instr :=
  [.busReset, .readBrowse, .readEmu1541, .readEmu1581, .refresh1541, .refresh1581, .pollButtons, .beginEmulating,
    .emulateEnter, .fastbootStep, .tick, .emulateExit, .shutdown, .ddEnter, .ddExit, .selectFirst, .nextDisk, .prevDisk,
    .getCount, .tickA, .tickB, .tickC, .tickD, .tickE, .tickF, .tickG, .tickH, .tickI, .tickJ, .tickJX, .tickK]

theorem readRow_plain {i : Instr} (h : i ∈ plainRows) (arg : Byte) : readRow i arg = formatN arg i := by
  cases i with
  | portBOut _ | selectImage _ | setSrqOut _ | caddyInsert _ | fastpathEvent _ => simp [plainRows] at h
  | _ => rfl

/-- One operation of each row. -/
def rows : List Instr :=
  plainRows ++ [.portBOut 0, .selectImage 0, .setSrqOut false, .caddyInsert false, .fastpathEvent .imageSelected]

/-- A selector without a row is reserved (R94). -/
theorem decode_of_no_row {w : CommandWord} (h : opField w ∉ rows.map selectorOf) : decode w = .error .selector := by
  have unlisted : (opField w).toNat ∉ rows.map fun i => (selectorOf i).toNat := by
    intro listed
    obtain ⟨i, row, same⟩ := List.mem_map.1 listed
    exact h (List.mem_map.2 ⟨i, row, BitVec.eq_of_toNat_eq same⟩)
  unfold decode
  split
  case h_37 => rfl
  all_goals
    rename_i listed
    rw [listed] at unlisted
    exact absurd (by decide) unlisted

/-- Settles O2: the selector names the row of the operation, and the row reads its operand back. -/
theorem decodeEncodeRoundTrip : Obligations.DecodeEncodeRoundTrip := by
  intro i
  have row : decode (encode i) = readRow i (argField (encode i)) := decode_eq_readRow (opField_commandWord _ _)
  rw [row, encode, argField_commandWord, readRow_operandOf]

/-- Settles O3: a word that decodes has a row, and what the row reads has the two fields of the word. -/
theorem encodeDecodeRoundTrip : Obligations.EncodeDecodeRoundTrip := by
  intro w i h
  by_cases listed : opField w ∈ rows.map selectorOf
  · obtain ⟨j, _, selector⟩ := List.mem_map.1 listed
    rw [decode_eq_readRow selector.symm] at h
    obtain ⟨op, arg⟩ := fields_of_readRow h
    rw [encode, op, arg, selector, commandWord_fields]
  · rw [decode_of_no_row listed] at h
    cases h

end Sys2Proof

namespace Sys2Proof.Machine

/-! ## Issued words -/

/-- An issued word that decodes is executed (R80, R83). -/
theorem step_of_issue {s : State} {d : DriveId} {w : CommandWord} {side : SideData} {n : Nat} {rest : List Move}
    {i : Instr} (agenda : s.agenda = .issue d w side n :: rest) (h : decode w = .ok i) :
    step s = exec i (({ s with agenda := rest } : State).focus d side n) := by
  rw [step_eq_runMove agenda, runMove, issueWord, h]

/-- An issued word that is reserved is refused by that name (R94, U1). -/
theorem step_of_reserved {s : State} {d : DriveId} {w : CommandWord} {side : SideData} {n : Nat} {rest : List Move}
    {why : Reserved} (agenda : s.agenda = .issue d w side n :: rest) (h : decode w = .error why) :
    step s = .refused (.reservedWord why) := by
  rw [step_eq_runMove agenda, runMove, issueWord, h]

/-- A loop with no lock step left executes the operation its control point asks for (R165). -/
theorem step_of_loopStep {s : State} {d : DriveId} {rest : List Move} {i : Instr}
    (agenda : s.agenda = .advance d :: rest) (present : s.present d = true)
    (alive : (s.drive d).mode ≠ .emulationShutdown) (idle : (s.drive d).todo = [])
    (next : loopStep (s.drive d) = .op i) : step s = exec i { s with agenda := rest, cur := d } := by
  rw [step_eq_runMove agenda, runMove]
  simp [advance, present, alive, idle, next, State.focus]

/-- Settles O4: a selector without a row is reserved, and each row refuses the bytes outside its format. -/
theorem reservedWordsRefused : Obligations.ReservedWordsRefused := by
  intro w
  refine ⟨fun unlisted => decode_of_no_row unlisted, fun plain nonzero => ?_, ?_, fun op high => ?_, fun op code => ?_,
    fun op => decode_eq_readRow (i := .selectImage 0) op, fun s d side n rest why => step_of_reserved⟩
  · obtain ⟨i, row, selector⟩ := List.mem_map.1 (show opField w ∈ plainRows.map selectorOf from plain)
    rw [decode_eq_readRow selector.symm, readRow_plain row]
    exact formatN_reserved i nonzero
  · rintro (op | op) high
    · exact (decode_eq_readRow (i := .setSrqOut false) op).trans (formatB_reserved _ high)
    · exact (decode_eq_readRow (i := .caddyInsert false) op).trans (formatB_reserved _ high)
  · exact (decode_eq_readRow (i := .fastpathEvent .imageSelected) op).trans (formatE_reserved _ high)
  · have row := decode_eq_readRow (i := .fastpathEvent .imageSelected) op
    rw [show argField w = 3 from code] at row
    exact row

/-- Settles O1: the words are decoded one by one. -/
theorem decodeListedWords : Obligations.DecodeListedWords := by
  unfold Obligations.DecodeListedWords
  decide

/-- Settles O5: an issued word that decodes is executed, and a moving loop executes the operation of its
control point. -/
theorem stepRunsDecodedInstruction : Obligations.StepRunsDecodedInstruction := by
  refine ⟨fun s d w side n rest i => step_of_issue, fun s nbits w i h => step_of_issue (rest := s.agenda) rfl h,
    fun s d rest agenda present idle emulating => ?_⟩
  have run {i : Instr} := step_of_loopStep (i := i) agenda present (alive_of_emulating emulating) idle
  refine ⟨fun phase => run ?_, fun phase => run ?_⟩ <;> simp [loopStep, emulating, phase]

end Sys2Proof.Machine
end

-- ==== Where the operations run ====
section
/-! SUPPORT. Every operation is `accept` of a test for its precondition (`93_implementation_defined.md` U1), so where it
runs and by which name it is refused elsewhere is said once, of `accept`. -/

namespace Sys2Proof.Machine

/-! ## Refusals -/

section
variable {s : State} {pre : Drive → Bool} {op : DriveId → State → State}

theorem accept_outOfPlace (r : s.ready) (h : ¬ pre s.self = true) : accept s pre op = .refused .outOfPlace := by
  obtain ⟨present, alive, idle⟩ := r
  unfold accept
  rw [if_pos present, if_neg alive, if_pos idle, if_neg h]

/-- While lock steps are left an operation is refused (R210). -/
theorem accept_busy (present : s.present s.cur = true) (alive : s.self.mode ≠ .emulationShutdown)
    (busy : s.self.todo ≠ []) : accept s pre op = .refused .busy := by
  unfold accept
  rw [if_pos present, if_neg alive, if_neg busy]

/-- Drive 1 with one drive configured does not exist (R213). -/
theorem accept_absent (absent : s.present s.cur = false) : accept s pre op = .refused .absentInstance := by
  unfold accept
  rw [if_neg (by simp [absent])]

end

/-! ## Preconditions -/

section
variable {x : Drive}

theorem atTickStep_iff {t : TickStep} :
    atTickStep t x = true ↔ x.mode.emulating = true ∧ x.phase = .realtime ∧ x.tickStep = t := by
  simp [atTickStep, and_assoc]

theorem hasChip_iff {kind : ChipKind} : hasChip kind x = true ↔ x.chipKind = kind := by
  simp [hasChip]

theorem outOfLoop_iff : outOfLoop x = true ↔ x.session.inLoop = false := by
  simp [outOfLoop]

theorem mayReadEmu_iff {m : Mode} {kind : ChipKind} :
    mayReadEmu m kind x = true ↔ x.mode = m ∧ x.phase = .realtime ∧ x.chipKind = kind := by
  simp [mayReadEmu, and_assoc]

theorem idleInIecCommands_iff : idleInIecCommands x = true ↔ x.mode = .iecCommands ∧ x.phase = .idle := by
  simp [idleInIecCommands]

theorem inFastboot_iff : inFastboot x = true ↔ x.mode.emulating = true ∧ x.phase = .fastboot := by
  simp [inFastboot]

theorem mayShutDown_iff :
    mayShutDown x = true ↔ x.mode = .iecCommands ∧ x.latches.reqShutdown = true ∧ x.session.inLoop = false := by
  simp [mayShutDown, and_assoc]

theorem maySwap_iff :
    maySwap x = true ↔
      x.mode = .iecCommands ∨ x.mode.emulating = true ∧ x.phase = .realtime ∧ x.tickStep = .k := by
  rw [maySwap, Bool.or_eq_true, inIecCommands_iff, atTickStep_iff]

end

/-- An operation is `accept` of a test for its precondition. -/
theorem exec_eq_accept (i : Instr) (s : State) :
    ∃ pre op, exec i s = accept s pre op ∧ (pre s.self = true ↔ precondition i s) := by
  cases i with
  | busReset | portBOut _ | setSrqOut _ | getCount => exact ⟨anywhere, _, rfl, iff_of_true rfl trivial⟩
  | readBrowse | fastpathEvent _ | caddyInsert _ | selectFirst => exact ⟨_, _, rfl, inIecCommands_iff⟩
  | readEmu1541 | readEmu1581 => exact ⟨_, _, rfl, mayReadEmu_iff⟩
  | refresh1541 | refresh1581 => exact ⟨_, _, rfl, hasChip_iff⟩
  | pollButtons => exact ⟨_, _, rfl, mayPoll_iff _ _ _⟩
  | beginEmulating => exact ⟨_, _, rfl, idleInIecCommands_iff⟩
  | emulateEnter => exact ⟨_, _, rfl, mayEnter_iff⟩
  | fastbootStep => exact ⟨_, _, rfl, inFastboot_iff⟩
  | emulateExit => exact ⟨_, _, rfl, mayLeave_iff⟩
  | shutdown => exact ⟨_, _, rfl, mayShutDown_iff⟩
  | ddEnter => exact ⟨_, _, rfl, outOfLoop_iff⟩
  | ddExit => exact ⟨isInLoop, _, rfl, .rfl⟩
  | selectImage _ | nextDisk | prevDisk => exact ⟨_, _, rfl, maySwap_iff⟩
  | tick | tickA | tickB | tickC | tickD | tickE | tickF | tickG | tickH | tickI | tickJ | tickJX | tickK =>
    exact ⟨_, _, rfl, atTickStep_iff⟩

/-- In the terminal mode the loop is stuck (R191, U12). -/
theorem step_stuck {s : State} {d : DriveId} {rest : List Move} (agenda : s.agenda = .advance d :: rest)
    (present : s.present d = true) (down : (s.drive d).mode = .emulationShutdown) :
    step s = .fault .stuckInShutdown := by
  rw [step_eq_runMove agenda, runMove]
  simp [advance, present, down]

/-- Settles O31: every operation is `accept` of a test for its precondition, and each refusal is one branch of it. -/
theorem operationsRunExactlyInPlace : Obligations.OperationsRunExactlyInPlace := by
  intro i s
  obtain ⟨pre, op, run, place⟩ := exec_eq_accept i s
  rw [run, ← place]
  exact ⟨fun r h => ⟨_, accept_ready r h⟩, accept_outOfPlace,
    fun present down => ⟨accept_shutDown present down, fun rest agenda => step_stuck agenda present down⟩,
    accept_busy, accept_absent⟩

end Sys2Proof.Machine
end

-- ==== Sensing the bus ====
section
/-! SUPPORT. What the reads of the pins make of the record and the trace (`40_bus_sense.md`): the sensed flags as the
rules write them out, the report of the unsupported configuration (R116), and what no read touches (R118). -/

namespace Sys2Proof.Machine

/-! ## Polarity, gate and loopback -/

theorem sense_normal_iff {c : Config} {raw pin : RawWord} (h : c.invertIECInputs = false) :
    sense c raw pin = true ↔ raw &&& pin = 0 := by
  simp [sense, h]

theorem sense_inverted_iff {c : Config} {raw pin : RawWord} (h : c.invertIECInputs = true) :
    sense c raw pin = true ↔ raw &&& pin ≠ 0 := by
  simp [sense, h]

theorem buttonAsserted_iff {raw mask : RawWord} : buttonAsserted raw mask = true ↔ raw &&& mask = 0 :=
  beq_iff_eq

/-- The software loopback is a disjunction (R112). -/
theorem loopback_eq_or (driven sensed : Bool) : loopback driven sensed = (driven || sensed) := by
  cases driven <;> rfl

/-- Settles O7: the polarity is the case of the invert flag, and each gate is its four rows. -/
theorem sensePolarityAndGate : Obligations.SensePolarityAndGate := by
  refine ⟨fun c raw pin => ⟨sense_normal_iff, sense_inverted_iff, buttonAsserted_iff⟩, ?_, ?_⟩
  · exact ⟨rfl, rfl, rfl, rfl⟩
  · exact ⟨rfl, rfl, rfl, rfl⟩

/-! ## The unsupported configuration -/

section
variable {d : DriveId} {s : State}

theorem notImpl_of_reported (h : (s.drive d).notImplReported = true) : notImpl d s = s :=
  if_pos h

theorem notImpl_of_unreported (h : (s.drive d).notImplReported = false) :
    notImpl d s = (s.mod d fun x => { x with notImplReported := true }).emit (.log d .notImplemented) :=
  if_neg (by simp [h])

theorem readBrowse_of_unsupported (h : splitUnsupported s.cfg = true) : readBrowse d s = notImpl d s :=
  if_pos h

theorem readEmu1541_of_unsupported (h : splitUnsupported s.cfg = true) : readEmu1541 d s = notImpl d s :=
  if_pos h

theorem readEmu1581_of_unsupported (h : splitUnsupported s.cfg = true) : readEmu1581 d s = notImpl d s :=
  if_pos h

theorem refresh_of_unsupported (h : splitUnsupported s.cfg = true) : refresh d s = notImpl d s :=
  if_pos h

end

theorem splitUnsupported_iff {c : Config} :
    splitUnsupported c = true ↔ c.splitIECLines = true ∧ c.platformSupportsSplit = false := by
  simp [splitUnsupported]

/-- An operation in place whose body reports is the report. -/
theorem accept_notImpl {s : State} {pre : Drive → Bool} {op : DriveId → State → State} (r : s.ready)
    (place : pre s.self = true) (reports : op s.cur s = notImpl s.cur s) :
    accept s pre op = .next (notImpl s.cur s) := by
  rw [accept_ready r place, reports]

/-- The operations that read the pins or drive them (R116). -/
def pinInstrs : List Instr := [.readBrowse, .readEmu1541, .readEmu1581, .refresh1541, .refresh1581]

/-- In place, a pin operation of the unsupported configuration is the report (R116). -/
theorem exec_pinInstr_of_unsupported {i : Instr} {s : State} (r : s.ready) (h : splitUnsupported s.cfg = true)
    (pin : i ∈ pinInstrs) (place : precondition i s) : exec i s = .next (notImpl s.cur s) := by
  simp only [pinInstrs, List.mem_cons, List.not_mem_nil, or_false] at pin
  rcases pin with rfl | rfl | rfl | rfl | rfl
  · exact accept_notImpl r (inIecCommands_iff.2 place) (readBrowse_of_unsupported h)
  · exact accept_notImpl r (mayReadEmu_iff.2 place) (readEmu1541_of_unsupported h)
  · exact accept_notImpl r (mayReadEmu_iff.2 place) (readEmu1581_of_unsupported h)
  · exact accept_notImpl r (hasChip_iff.2 place) (refresh_of_unsupported h)
  · exact accept_notImpl r (hasChip_iff.2 place) (refresh_of_unsupported h)

/-- Settles O9: each of the five is `notImpl` there, which reports the first time and then does nothing. -/
theorem unsupportedSplitIsNoOp : Obligations.UnsupportedSplitIsNoOp := by
  intro s i r split platform place
  have unsupported := splitUnsupported_iff.2 ⟨split, platform⟩
  have run : exec i s = .next (notImpl s.cur s) := by
    rcases place with ⟨rfl, p⟩ | ⟨rfl, p⟩ | ⟨rfl, p⟩ | ⟨rfl, p⟩ | ⟨rfl, p⟩ <;>
      exact exec_pinInstr_of_unsupported r unsupported (by simp [pinInstrs]) p
  rw [run]
  exact ⟨fun reported => by rw [notImpl_of_reported reported],
    fun unreported => by rw [notImpl_of_unreported unreported]⟩

/-! ## `READ_BROWSE` -/

section
variable {d : DriveId} {s : State}

theorem readBrowse_of_ineligible (supported : splitUnsupported s.cfg = false) (h : s.readEligible d = false) :
    readBrowse d s = s := by
  simp [readBrowse, supported, h]

theorem readBrowse_of_eligible (supported : splitUnsupported s.cfg = false) (h : s.readEligible d = true) :
    readBrowse d s =
      pollButtons d ((gpioRead d s).mod d fun x => x.modLines (browseLines s.cfg x.rawSample)) := by
  simp [readBrowse, supported, h]

/-- What an eligible `READ_BROWSE` makes of the record (R111). -/
theorem readBrowse_drive (supported : splitUnsupported s.cfg = false) (h : s.readEligible d = true) :
    (readBrowse d s).drive d =
      { s.drive d with
        lines := browseLines s.cfg (s.gpioAnswer d) (s.drive d).lines
        rawSample := s.gpioAnswer d
        samplePolled := true
        buttons := pollFile s.cfg (s.gpioAnswer d) s.cfg.pinButtons (s.drive d).buttons
        env := envAfter s d .gpio } := by
  rw [readBrowse_of_eligible supported h, pollButtons_drive, drive_mod_self, mod_cfg, (gpioRead_outside d s).cfg,
    gpioRead_drive]
  rfl

theorem readBrowse_trace (supported : splitUnsupported s.cfg = false) (h : s.readEligible d = true) :
    (readBrowse d s).trace = s.trace ++ [.gpioRead d (s.gpioAnswer d)] := by
  rw [readBrowse_of_eligible supported h, pollButtons_trace, mod_trace, gpioRead_trace]

end

/-- Settles O8: an eligible read is one sample, its flags and a poll; without eligibility the body is the identity. -/
theorem readBrowseResult : Obligations.ReadBrowseResult := by
  intro s r mode supported
  have run : exec .readBrowse s = .next (readBrowse s.cur s) := accept_ready r (inIecCommands_iff.2 mode)
  refine ⟨fun ineligible => ?_, fun eligible => ?_⟩
  · rw [run, readBrowse_of_ineligible supported ineligible]
  · refine ⟨_, run, readBrowse_outside _ _, readBrowse_trace supported eligible, ?_⟩
    rw [readBrowse_drive supported eligible]
    rfl

/-! ## `READ_EMU_1541` and `READ_EMU_1581` -/

/-- The flags of an emulation read with a VIA, as R114 writes them out: the XOR gate and the loopback. -/
theorem emuLines_via1541 (c : Config) (raw : RawWord) (l : Lines) :
    emuLines c .via1541 raw l =
      { l with
        piAtn := sense c raw c.pinAtn
        atnaDataSetToOut := l.viaAtna != sense c raw c.pinAtn
        piData := ((l.viaAtna != sense c raw c.pinAtn) || l.dataSetToOut) || sense c raw c.pinData
        piClock := l.clockSetToOut || sense c raw c.pinClock
        resetting := !c.ignoreReset && sense c raw c.pinReset } := by
  simp only [emuLines, loopback_eq_or]
  rfl

/-- The flags of an emulation read without a VIA, as R115 writes them out: the AND gate, and SRQ with loopback. -/
theorem emuLines1581_cia1581 (c : Config) (raw : RawWord) (l : Lines) :
    emuLines1581 c .cia1581 raw l =
      { l with
        piAtn := sense c raw c.pinAtn
        atnaDataSetToOut := l.viaAtna && sense c raw c.pinAtn
        piData := ((l.viaAtna && sense c raw c.pinAtn) || l.dataSetToOut) || sense c raw c.pinData
        piClock := l.clockSetToOut || sense c raw c.pinClock
        piSRQ := l.srqSetToOut || sense c raw c.pinSRQ
        resetting := !c.ignoreReset && sense c raw c.pinReset } := by
  simp only [emuLines1581, emuLines, loopback_eq_or]
  rfl

/-- The event of the eligibility gate: one read of the sample then held, or none (R113). -/
def sampleEvents (s : State) (d : DriveId) : List Event :=
  if s.readEligible d then [.gpioRead d (sampleAfter s d)] else []

theorem sampleIfEligible_trace_eq (d : DriveId) (s : State) :
    (sampleIfEligible d s).trace = s.trace ++ sampleEvents s d := by
  rw [sampleIfEligible_trace]
  cases eligible : s.readEligible d <;> simp [sampleEvents, sampleAfter, eligible]

section
variable {d : DriveId} {s : State}

/-- `READ_EMU_1541` samples if it may, and then writes the chip inputs from the flags it has set (R114). -/
theorem readEmu1541_trace (supported : splitUnsupported s.cfg = false) :
    (readEmu1541 d s).trace =
      s.trace ++ sampleEvents s d ++ chipWrites1541 s.cfg d ((readEmu1541 d s).drive d).lines := by
  simp [readEmu1541, supported, sampleIfEligible_trace_eq]

/-- `READ_EMU_1581` samples if it may, and then writes the chip inputs from the flags it has set (R115). -/
theorem readEmu1581_trace (supported : splitUnsupported s.cfg = false) :
    (readEmu1581 d s).trace =
      s.trace ++ sampleEvents s d ++ chipWrites1581 s.cfg d ((readEmu1581 d s).drive d).lines := by
  simp [readEmu1581, supported, sampleIfEligible_trace_eq]

end

/-- Settles O10: the record and the trace of `READ_EMU_1541`, with the flags of a VIA written out. -/
theorem readEmu1541Result : Obligations.ReadEmu1541Result := by
  intro s r mode phase kind supported
  have run : exec .readEmu1541 s = .next (readEmu1541 s.cur s) := accept_ready r (mayReadEmu_iff.2 ⟨mode, phase, kind⟩)
  have record := readEmu1541_drive s.cur s supported
  rw [show (s.drive s.cur).chipKind = .via1541 from kind, emuLines_via1541] at record
  refine ⟨_, run, readEmu1541_outside _ _, ?_, ?_⟩
  · rw [readEmu1541_trace supported, record]
    rfl
  · rw [record]
    rfl

/-- Settles O11: the record and the trace of `READ_EMU_1581`, with the flags of a CIA written out. -/
theorem readEmu1581Result : Obligations.ReadEmu1581Result := by
  intro s r mode phase kind supported
  have run : exec .readEmu1581 s = .next (readEmu1581 s.cur s) := accept_ready r (mayReadEmu_iff.2 ⟨mode, phase, kind⟩)
  have record := readEmu1581_drive s.cur s supported
  rw [show (s.drive s.cur).chipKind = .cia1581 from kind, emuLines1581_cia1581] at record
  refine ⟨_, run, readEmu1581_outside _ _, ?_, ?_⟩
  · rw [readEmu1581_trace supported, record]
    rfl
  · rw [record]
    rfl

/-! ## What no sense touches -/

/-- The same intent flags, and the same set-to-output flags but for the gate's (R21, R22). -/
structure SameOutputs (l m : Lines) : Prop where
  intents : m.viaAtna = l.viaAtna ∧ m.viaData = l.viaData ∧ m.viaClock = l.viaClock
  driven  : m.dataSetToOut = l.dataSetToOut ∧ m.clockSetToOut = l.clockSetToOut ∧ m.srqSetToOut = l.srqSetToOut

theorem SameOutputs.refl (l : Lines) : SameOutputs l l :=
  ⟨⟨rfl, rfl, rfl⟩, rfl, rfl, rfl⟩

theorem browseLines_sameOutputs (c : Config) (raw : RawWord) (l : Lines) : SameOutputs l (browseLines c raw l) :=
  ⟨⟨rfl, rfl, rfl⟩, rfl, rfl, rfl⟩

theorem emuLines_sameOutputs (c : Config) (kind : ChipKind) (raw : RawWord) (l : Lines) :
    SameOutputs l (emuLines c kind raw l) :=
  ⟨⟨rfl, rfl, rfl⟩, rfl, rfl, rfl⟩

theorem emuLines1581_sameOutputs (c : Config) (kind : ChipKind) (raw : RawWord) (l : Lines) :
    SameOutputs l (emuLines1581 c kind raw l) :=
  ⟨⟨rfl, rfl, rfl⟩, rfl, rfl, rfl⟩

/-- The events of one sense: no pin is driven, and the pins are read at most once. -/
structure SenseEvents (es : List Event) : Prop where
  drives : ∀ e ∈ es, e.isDrive = false
  reads  : (es.filter Event.isRead).length ≤ 1

theorem senseEvents_nil : SenseEvents [] :=
  ⟨by simp, Nat.zero_le _⟩

theorem senseEvents_gpioRead (d : DriveId) (w : RawWord) : SenseEvents [.gpioRead d w] :=
  ⟨by simp [Event.isDrive], List.length_filter_le _ _⟩

theorem senseEvents_log (d : DriveId) (kind : LogKind) : SenseEvents [.log d kind] :=
  ⟨by simp [Event.isDrive], List.length_filter_le _ _⟩

theorem senseEvents_sampleEvents (s : State) (d : DriveId) : SenseEvents (sampleEvents s d) := by
  unfold sampleEvents
  split
  · exact senseEvents_gpioRead _ _
  · exact senseEvents_nil

/-- Events that do not reach the pins may follow. -/
theorem SenseEvents.append {es fs : List Event} (h : SenseEvents es)
    (quiet : ∀ e ∈ fs, e.isDrive = false ∧ e.isRead = false) : SenseEvents (es ++ fs) := by
  have noReads : fs.filter Event.isRead = [] := List.filter_eq_nil_iff.2 fun e he => by simp [(quiet e he).2]
  refine ⟨fun e he => ?_, ?_⟩
  · rcases List.mem_append.1 he with he | he
    · exact h.drives e he
    · exact (quiet e he).1
  · rw [List.filter_append, noReads, List.append_nil]
    exact h.reads

theorem chipWrites1541_quiet (c : Config) (d : DriveId) (l : Lines) :
    ∀ e ∈ chipWrites1541 c d l, e.isDrive = false ∧ e.isRead = false := by
  simp [chipWrites1541, Event.isDrive, Event.isRead]

theorem chipWrites1581_quiet (c : Config) (d : DriveId) (l : Lines) :
    ∀ e ∈ chipWrites1581 c d l, e.isDrive = false ∧ e.isRead = false := by
  simp [chipWrites1581, Event.isDrive, Event.isRead]

/-- From `s` to `t` drive `d` only senses (R118). -/
structure OnlySenses (d : DriveId) (s t : State) : Prop where
  lines : SameOutputs (s.drive d).lines (t.drive d).lines
  out   : (t.drive d).out = (s.drive d).out
  mode  : (t.drive d).mode = (s.drive d).mode
  trace : ∃ es, t.trace = s.trace ++ es ∧ SenseEvents es

theorem OnlySenses.refl (d : DriveId) (s : State) : OnlySenses d s s :=
  ⟨.refl _, rfl, rfl, [], (List.append_nil _).symm, senseEvents_nil⟩

theorem notImpl_onlySenses (d : DriveId) (s : State) : OnlySenses d s (notImpl d s) := by
  have events : SenseEvents (if (s.drive d).notImplReported then [] else [.log d .notImplemented]) := by
    split
    · exact senseEvents_nil
    · exact senseEvents_log _ _
  refine ⟨?_, ?_, ?_, _, notImpl_trace d s, events⟩ <;> rw [notImpl_drive]
  exact .refl _

/-- The unsupported configuration only reports, so it is enough to look at the other (R116). -/
theorem onlySenses_of_supported {d : DriveId} {s t : State} (noOp : splitUnsupported s.cfg = true → t = notImpl d s)
    (senses : splitUnsupported s.cfg = false → OnlySenses d s t) : OnlySenses d s t := by
  cases supported : splitUnsupported s.cfg with
  | true => exact noOp supported ▸ notImpl_onlySenses d s
  | false => exact senses supported

theorem readBrowse_onlySenses (d : DriveId) (s : State) : OnlySenses d s (readBrowse d s) := by
  refine onlySenses_of_supported readBrowse_of_unsupported fun supported => ?_
  cases eligible : s.readEligible d with
  | false => exact (readBrowse_of_ineligible supported eligible).symm ▸ .refl d s
  | true =>
    refine ⟨?_, ?_, ?_, _, readBrowse_trace supported eligible, senseEvents_gpioRead _ _⟩ <;>
      rw [readBrowse_drive supported eligible]
    exact browseLines_sameOutputs _ _ _

theorem readEmu1541_onlySenses (d : DriveId) (s : State) : OnlySenses d s (readEmu1541 d s) := by
  refine onlySenses_of_supported readEmu1541_of_unsupported fun supported => ?_
  refine ⟨?_, ?_, ?_, _, (readEmu1541_trace supported).trans (List.append_assoc ..),
    (senseEvents_sampleEvents s d).append (chipWrites1541_quiet _ _ _)⟩ <;>
    rw [readEmu1541_drive d s supported]
  exact emuLines_sameOutputs _ _ _ _

theorem readEmu1581_onlySenses (d : DriveId) (s : State) : OnlySenses d s (readEmu1581 d s) := by
  refine onlySenses_of_supported readEmu1581_of_unsupported fun supported => ?_
  refine ⟨?_, ?_, ?_, _, (readEmu1581_trace supported).trans (List.append_assoc ..),
    (senseEvents_sampleEvents s d).append (chipWrites1581_quiet _ _ _)⟩ <;>
    rw [readEmu1581_drive d s supported]
  exact emuLines1581_sameOutputs _ _ _ _

theorem exec_onlySenses {i : Instr} {s t : State} (reads : i = .readBrowse ∨ i = .readEmu1541 ∨ i = .readEmu1581)
    (h : exec i s = .next t) : OnlySenses s.cur s t := by
  rcases reads with rfl | rfl | rfl <;> obtain ⟨_, _, rfl⟩ := accept_next.1 h
  · exact readBrowse_onlySenses _ _
  · exact readEmu1541_onlySenses _ _
  · exact readEmu1581_onlySenses _ _

/-- An operation goes on or is refused (R194). -/
theorem exec_ne_fault (i : Instr) (s : State) (r : Fault) : exec i s ≠ .fault r := by
  obtain ⟨pre, op, run, _⟩ := exec_eq_accept i s
  rw [run]
  exact accept_ne_fault

/-- Settles O12: a read that goes on only senses, in every configuration. -/
theorem senseOperationsNever : Obligations.SenseOperationsNever := by
  refine fun i s reads => ⟨exec_ne_fault i s, fun t h => ?_⟩
  obtain ⟨lines, out, mode, es, trace, events⟩ := exec_onlySenses reads h
  exact ⟨lines.intents, lines.driven, out, mode, es, trace, events.drives, events.reads⟩

end Sys2Proof.Machine
end

-- ==== Driving the bus ====
section
/-! SUPPORT. What the operations that set the line flags and drive the pins make of the state (`41_bus_drive.md`): the
flags as the rules write them out, the two outcomes of a refresh, and the reset by chip kind. -/

namespace Sys2Proof.Machine

/-! ## `PORTB_OUT` and `SET_SRQ_OUT` -/

/-- A DATA OUT pin is an input where its direction bit is 0 (R85). -/
theorem dataIsInput_eq (c : Config) (dir : Byte) : dataIsInput c dir = ((dir &&& c.stDataOut) == 0) :=
  Bool.not_not _

theorem clockIsInput_eq (c : Config) (dir : Byte) : clockIsInput c dir = ((dir &&& c.stClockOut) == 0) :=
  Bool.not_not _

/-- `PORTB_OUT` writes the chip inputs from the flags it has set (R131 step 5). -/
theorem portBOut_trace (status : Byte) (d : DriveId) (s : State) :
    (portBOut status d s).trace = s.trace ++ portBWrites s.cfg d ((portBOut status d s).drive d).lines := by
  simp [portBOut]

/-- Settles O14: the record and the trace of `PORTB_OUT`, with the intents and the loopback written out. -/
theorem portBOutResult : Obligations.PortBOutResult := by
  intro s status r d x dir atna data clock g
  have run : exec (.portBOut status) s = .next (portBOut status d s) := accept_ready r rfl
  have record := portBOut_drive status d s
  have flags : portBLines s.cfg x.chipKind status dir x.lines =
      { x.lines with
        viaAtna := atna, viaData := data, viaClock := clock
        atnaDataSetToOut := g, dataSetToOut := data, clockSetToOut := clock
        piData := (g || data) || x.lines.piData, piClock := clock || x.lines.piClock } := by
    simp only [portBLines, loopback_eq_or, dataIsInput_eq, clockIsInput_eq]
    rfl
  rw [show s.drive d = x from rfl, show s.directionAnswer d = dir from rfl, flags] at record
  refine ⟨_, run, portBOut_outside _ _ _, ?_, ?_⟩
  · rw [portBOut_trace, record, List.append_assoc]
    rfl
  · rw [record]

/-- `SET_SRQ_OUT` with the loopback as a disjunction (R136). -/
theorem setSrqOut_eq (b : Bool) (d : DriveId) (s : State) :
    setSrqOut b d s =
      s.mod d fun x => { x with lines := { x.lines with srqSetToOut := b, piSRQ := b || x.lines.piSRQ } } := by
  simp only [setSrqOut, loopback_eq_or]
  rfl

/-- Settles O15: both words are encodings, and the operation runs at every control point. -/
theorem setSrqOutResult : Obligations.SetSrqOutResult := by
  refine ⟨decodeEncodeRoundTrip (.setSrqOut false), decodeEncodeRoundTrip (.setSrqOut true), fun s b r => ?_⟩
  rw [← setSrqOut_eq]
  exact accept_ready r rfl

/-! ## The refreshes -/

theorem refresh_of_supported {d : DriveId} {s : State} (h : splitUnsupported s.cfg = false) :
    refresh d s = gpioDrive d (outVector (s.drive d)) s :=
  if_neg (by simp [h])

/-- Settles O16: both forms are the same body, in place at their own chip kind. -/
theorem refreshPresentsVector : Obligations.RefreshPresentsVector := by
  intro s i r supported place
  have run : exec i s = .next (refresh s.cur s) := by
    rcases place with ⟨rfl, kind⟩ | ⟨rfl, kind⟩ <;> exact accept_ready r (hasChip_iff.2 kind)
  rw [run, refresh_of_supported supported]
  rfl

/-! ## `BUS_RESET` -/

/-- The twelve line flags released. -/
def releaseLines (d : DriveId) (s : State) : State :=
  s.mod d fun x => { x with lines := Lines.released }

@[simp] theorem releaseLines_cfg (d : DriveId) (s : State) : (releaseLines d s).cfg = s.cfg := mod_cfg _ _ _

@[simp] theorem releaseLines_drive (d : DriveId) (s : State) :
    (releaseLines d s).drive d = { s.drive d with lines := Lines.released } := drive_mod_self _ _ _

/-- `BUS_RESET` releases the lines, whatever the gate, and refreshes where no VIA does it later (R137, R138). -/
theorem busReset_eq (d : DriveId) (s : State) :
    busReset d s =
      if (s.drive d).chipKind = .cia1581 then refresh d (releaseLines d s) else releaseLines d s := by
  simp only [busReset, releaseLines, resetLines_released, drive_mod_self]

theorem busReset_of_via1541 {d : DriveId} {s : State} (kind : (s.drive d).chipKind = .via1541) :
    busReset d s = releaseLines d s := by
  rw [busReset_eq, if_neg (by simp [kind])]

theorem busReset_of_cia1581 {d : DriveId} {s : State} (kind : (s.drive d).chipKind = .cia1581) :
    busReset d s = refresh d (releaseLines d s) := by
  rw [busReset_eq, if_pos kind]

/-- With the lines released only LED and sound can be driven (R133). -/
theorem outVector_released (x : Drive) :
    outVector { x with lines := Lines.released } = ⟨false, false, false, x.outputLED, x.outputSound⟩ := rfl

/-- Settles O17: the reset by chip kind, and its refresh in the supported and in the unsupported configuration. -/
theorem busResetResult : Obligations.BusResetResult := by
  intro s r d released after v unsupported
  have run : exec .busReset s = .next (busReset d s) := accept_ready r rfl
  have released_eq : releaseLines d s = after := rfl
  rw [run]
  refine ⟨fun kind => ?_, fun kind supported => ?_, fun kind split unreported => ?_, fun kind split reported => ?_⟩
  · rw [busReset_of_via1541 kind, released_eq]
  · rw [busReset_of_cia1581 kind, refresh_of_supported (by rwa [releaseLines_cfg]), releaseLines_drive,
      outVector_released, released_eq]
    rfl
  · rw [busReset_of_cia1581 kind, refresh_of_unsupported (by rwa [releaseLines_cfg]),
      notImpl_of_unreported (by rwa [releaseLines_drive]), released_eq]
  · rw [busReset_of_cia1581 kind, refresh_of_unsupported (by rwa [releaseLines_cfg]),
      notImpl_of_reported (by rwa [releaseLines_drive]), released_eq]

/-- What `BUS_RESET` makes of a record, as a function of the configuration and the record alone. -/
def resetRecord (c : Config) (x : Drive) : Drive :=
  if x.chipKind = .cia1581 then
    if splitUnsupported c then { x with lines := Lines.released, notImplReported := true }
    else { x with lines := Lines.released, out := outVector { x with lines := Lines.released } }
  else { x with lines := Lines.released }

theorem busReset_drive_eq (d : DriveId) (s : State) :
    (busReset d s).drive d = resetRecord s.cfg (s.drive d) := by
  rw [busReset_eq, resetRecord]
  split
  · rw [refresh_drive, releaseLines_cfg, releaseLines_drive]
  · exact releaseLines_drive d s

/-- A record that is reset is a fixed point: its lines are released, and LED, sound and the report are as they are. -/
theorem resetRecord_resetRecord (c : Config) (x : Drive) : resetRecord c (resetRecord c x) = resetRecord c x := by
  by_cases kind : x.chipKind = .cia1581
  · cases supported : splitUnsupported c <;> simp [resetRecord, kind, supported, outVector]
  · simp [resetRecord, kind]

/-- Settles O18: the drive stays ready, and the record of a reset is a fixed point of the reset. -/
theorem busResetIdempotent : Obligations.BusResetIdempotent := by
  intro s t h
  obtain ⟨r, _, rfl⟩ := accept_next.1 h
  have control := busReset_control s.cfg s.cur s
  have outside := busReset_outside s.cur s
  have again : exec .busReset (busReset s.cur s) = .next (busReset (busReset s.cur s).cur (busReset s.cur s)) :=
    accept_ready (control.ready outside r) rfl
  rw [outside.cur] at again
  refine ⟨control.mode, _, again, busReset_outside _ _, ?_⟩
  rw [busReset_drive_eq, busReset_drive_eq, outside.cfg, resetRecord_resetRecord]

end Sys2Proof.Machine
end

-- ==== What changes the pins ====
section
/-! SUPPORT. The pins change in a refresh and in what runs one, and nowhere else (`41_bus_drive.md` R133, R141): every
other operation, sub-step, lock step and move is built from changes of other fields and from events that do not reach
the pins. -/

namespace Sys2Proof.Machine

/-- From `s` to `t` drive `d` keeps `Out`, and nothing is driven. -/
structure PinsKept (d : DriveId) (s t : State) : Prop where
  out   : (t.drive d).out = (s.drive d).out
  trace : ∃ es, t.trace = s.trace ++ es ∧ ∀ e ∈ es, e.isDrive = false

/-! ## Building blocks -/

section
variable {d : DriveId} {s t u : State}

theorem PinsKept.of_trace_eq (out : (t.drive d).out = (s.drive d).out) (trace : t.trace = s.trace) :
    PinsKept d s t :=
  ⟨out, [], by rw [trace, List.append_nil], by simp⟩

theorem PinsKept.refl (d : DriveId) (s : State) : PinsKept d s s :=
  .of_trace_eq rfl rfl

theorem PinsKept.trans (h : PinsKept d s t) (k : PinsKept d t u) : PinsKept d s u := by
  obtain ⟨out, es, trace, quiet⟩ := h
  obtain ⟨out', fs, trace', quiet'⟩ := k
  refine ⟨out'.trans out, es ++ fs, by rw [trace', trace, List.append_assoc], fun e he => ?_⟩
  exact (List.mem_append.1 he).elim (quiet e) (quiet' e)

theorem PinsKept.mod (h : PinsKept d s t) {f : Drive → Drive} (out : (f (t.drive d)).out = (t.drive d).out) :
    PinsKept d s (t.mod d f) :=
  h.trans (.of_trace_eq (by rwa [drive_mod_self]) (mod_trace _ _ _))

theorem PinsKept.emits (h : PinsKept d s t) {es : List Event} (quiet : ∀ e ∈ es, e.isDrive = false) :
    PinsKept d s (t.emits es) :=
  h.trans ⟨by rw [drive_emits], es, rfl, quiet⟩

theorem PinsKept.emit (h : PinsKept d s t) {e : Event} (quiet : e.isDrive = false) : PinsKept d s (t.emit e) :=
  h.emits (es := [e]) (by simpa using quiet)

theorem PinsKept.spend (h : PinsKept d s t) (p : Port) : PinsKept d s (t.spend d p) :=
  h.trans (.of_trace_eq (by rw [drive_spend]) (spend_trace _ _ _))

theorem PinsKept.setStep (h : PinsKept d s t) (n : TickStep) : PinsKept d s (setStep d n t) :=
  h.mod rfl

theorem PinsKept.setResult (h : PinsKept d s t) (r : OpResult) : PinsKept d s (setResult d r t) :=
  h.mod rfl

theorem PinsKept.setCaddy (h : PinsKept d s t) (y : Caddy) : PinsKept d s (setCaddy d y t) :=
  h.mod rfl

theorem OnlySenses.pinsKept (h : OnlySenses d s t) : PinsKept d s t := by
  obtain ⟨_, out, _, es, trace, events⟩ := h
  exact ⟨out, es, trace, events.drives⟩

end

/-! ## The chip's calls, senses and polls -/

theorem portBWrites_quiet (c : Config) (d : DriveId) (l : Lines) : ∀ e ∈ portBWrites c d l, e.isDrive = false := by
  intro e he
  rcases List.mem_append.1 he with he | he <;> split at he <;> simp_all [Event.isDrive]

theorem portBOut_pinsKept (status : Byte) (d : DriveId) (s : State) : PinsKept d s (portBOut status d s) :=
  (((PinsKept.refl d s).spend _).mod rfl).emits (portBWrites_quiet _ _ _)

theorem setSrqOut_pinsKept (b : Bool) (d : DriveId) (s : State) : PinsKept d s (setSrqOut b d s) :=
  (PinsKept.refl d s).mod rfl

theorem chipCall_pinsKept (d : DriveId) (s : State) (call : ChipCall) : PinsKept d s (chipCall d s call) := by
  cases call with
  | portBOut status => exact portBOut_pinsKept status d s
  | setSrqOut b => exact setSrqOut_pinsKept b d s

theorem chipCalls_pinsKept (d : DriveId) (s : State) (calls : List ChipCall) :
    PinsKept d s (calls.foldl (chipCall d) s) := by
  induction calls generalizing s with
  | nil => exact .refl d s
  | cons call calls ih => exact (chipCall_pinsKept d s call).trans (ih _)

theorem cpuStep_pinsKept (d : DriveId) (s : State) : PinsKept d s (cpuStep d s) :=
  (((PinsKept.refl d s).spend .calls).trans (chipCalls_pinsKept d _ _)).emit rfl

theorem readEmu_pinsKept (d : DriveId) (s : State) : PinsKept d s (readEmu d s) := by
  unfold readEmu
  split
  · exact (readEmu1541_onlySenses d s).pinsKept
  · exact (readEmu1581_onlySenses d s).pinsKept
  · exact .refl d s
  · exact .refl d s

theorem pollButtons_pinsKept (d : DriveId) (s : State) : PinsKept d s (pollButtons d s) :=
  (PinsKept.refl d s).mod rfl

/-! ## The caddy -/

theorem caddyInsert_pinsKept (file : FileInfo) (ro : Bool) (d : DriveId) (s : State) :
    PinsKept d s (caddyInsert file ro d s).2 := by
  unfold caddyInsert
  split
  · exact .refl d s
  · split
    · exact (PinsKept.refl d s).spend .opened
    · dsimp only
      exact ((PinsKept.refl d s).spend .opened).mod rfl

theorem insertImage_pinsKept (ro : Bool) (d : DriveId) (s : State) : PinsKept d s (insertImage ro d s) :=
  (caddyInsert_pinsKept _ ro d s).setResult _

theorem selectFirst_pinsKept (d : DriveId) (s : State) : PinsKept d s (selectFirst d s) :=
  ((PinsKept.refl d s).setCaddy _).setResult _

theorem selectImage_pinsKept (index : Byte) (d : DriveId) (s : State) : PinsKept d s (selectImage index d s) :=
  ((PinsKept.refl d s).setCaddy _).setResult _

theorem nextDisk_pinsKept (d : DriveId) (s : State) : PinsKept d s (nextDisk d s) :=
  (PinsKept.refl d s).setCaddy _

theorem prevDisk_pinsKept (d : DriveId) (s : State) : PinsKept d s (prevDisk d s) :=
  (PinsKept.refl d s).setCaddy _

theorem getCount_pinsKept (d : DriveId) (s : State) : PinsKept d s (getCount d s) :=
  (PinsKept.refl d s).setResult _

/-! ## The sequencer outside the tick -/

theorem beginEmulating_pinsKept (d : DriveId) (s : State) : PinsKept d s (beginEmulating d s) := by
  unfold beginEmulating
  split
  · exact .refl d s
  · exact ((PinsKept.refl d s).mod rfl).emit rfl

theorem fastbootStep_pinsKept (d : DriveId) (s : State) : PinsKept d s (fastbootStep d s) := by
  refine (cpuStep_pinsKept d s).mod ?_
  dsimp only
  split <;> rfl

theorem imageSelected_pinsKept (d : DriveId) (s : State) : PinsKept d s (imageSelected d s) := by
  unfold imageSelected
  dsimp only
  have inserted := ((PinsKept.refl d s).mod (f := fun x => x.modLatches fun l => { l with reqMount := none }) rfl).trans
    (caddyInsert_pinsKept s.side.file s.side.readOnly d _)
  split
  · split
    · exact (inserted.setCaddy _).trans (beginEmulating_pinsKept d _)
    · exact inserted.trans (beginEmulating_pinsKept d _)
  · exact inserted.emit rfl

theorem stateChange_pinsKept (d : DriveId) (s : State) : PinsKept d s (stateChange d s) := by
  unfold stateChange
  split
  · exact .refl d s
  · exact (PinsKept.refl d s).mod rfl

/-- Of the outcomes of the fast path only the reset refreshes (R190). -/
theorem fastpathEvent_pinsKept {o : FastPathOutcome} (h : o ≠ .fpReset) (d : DriveId) (s : State) :
    PinsKept d s (fastpathEvent o d s) := by
  cases o with
  | imageSelected => exact imageSelected_pinsKept d s
  | stateChange => exact stateChange_pinsKept d s
  | fpReset => exact absurd rfl h

theorem shutdown_pinsKept (d : DriveId) (s : State) : PinsKept d s (shutdown d s) :=
  ((PinsKept.refl d s).mod rfl).emit rfl

/-! ## The sub-steps of a tick -/

theorem tickA_pinsKept (d : DriveId) (s : State) : PinsKept d s (tickA d s) :=
  (((PinsKept.refl d s).spend .now).mod rfl).setStep .b

theorem tickB_pinsKept (d : DriveId) (s : State) : PinsKept d s (tickB d s) := by
  unfold tickB
  split
  · exact (readEmu_pinsKept d s).setStep .c
  · exact (PinsKept.refl d s).setStep .c

theorem tickC_pinsKept (d : DriveId) (s : State) : PinsKept d s (tickC d s) := by
  have asked := (PinsKept.refl d s).spend .cpu
  unfold tickC
  dsimp only
  split
  · exact (asked.mod rfl).setStep .d
  · exact asked.setStep .d

theorem tickD_pinsKept (d : DriveId) (s : State) : PinsKept d s (tickD d s) :=
  (cpuStep_pinsKept d s).setStep .e

theorem tickF_pinsKept (d : DriveId) (s : State) : PinsKept d s (tickF d s) := by
  have asked := (PinsKept.refl d s).spend .led
  unfold tickF
  dsimp only
  split
  · exact ((asked.mod rfl).emit rfl).setStep .g
  · exact (asked.mod rfl).setStep .g

/-- The square wave switches the sound output, which the next refresh presents (R179). -/
theorem soundWave_out (c : Config) (x : Drive) : (soundWave c x).out = x.out := by
  unfold soundWave
  split <;> rfl

theorem tickG_pinsKept (d : DriveId) (s : State) : PinsKept d s (tickG d s) := by
  have asked := (PinsKept.refl d s).spend .head
  unfold tickG
  dsimp only
  refine (PinsKept.mod ?_ (soundWave_out _ _)).setStep .h
  split
  · split
    · exact (asked.mod rfl).emit rfl
    · exact asked.mod rfl
  · exact asked

theorem takeSwapRequest_out (c : Config) (x : Drive) : (takeSwapRequest c x).out = x.out := by
  unfold takeSwapRequest
  dsimp only
  split
  · rfl
  · split
    · rfl
    · split <;> rfl

theorem tickH_pinsKept (d : DriveId) (s : State) : PinsKept d s (tickH d s) := by
  unfold tickH
  dsimp only
  refine (PinsKept.mod ?_ ?_).setStep .i
  · split
    · exact pollButtons_pinsKept d s
    · exact .refl d s
  · exact takeSwapRequest_out _ _

theorem tickI_pinsKept (d : DriveId) (s : State) : PinsKept d s (tickI d s) := by
  have counted := (PinsKept.refl d s).mod (f := fun x => x.modSession (countTick x.lines.resetting)) rfl
  unfold tickI
  dsimp only
  split
  · exact counted.setStep .j
  · exact (counted.mod rfl).emit rfl

theorem tickJ_pinsKept (d : DriveId) (s : State) : PinsKept d s (tickJ d s) := by
  have asked := (PinsKept.refl d s).spend .now
  have logged (late : Prop) [Decidable late] :
      PinsKept d s (if late then (s.spend d .now).emit (.log d .lostCycle) else s.spend d .now) := by
    split
    · exact asked.emit rfl
    · exact asked
  unfold tickJ
  dsimp only
  split
  · exact ((logged _).mod rfl).setStep .jx
  · exact (logged _).setStep .jx

theorem tickK_pinsKept (d : DriveId) (s : State) : PinsKept d s (tickK d s) := by
  obtain ⟨_, _, _, served, _⟩ := serviceSwap_cases s.cfg (s.drive d)
  exact (PinsKept.refl d s).mod (by rw [served]; rfl)

/-- The sub-steps that refresh (R177, R184). -/
def refreshSteps : List TickStep := [.e, .jx]

theorem subStep_pinsKept {t : TickStep} (h : t ∉ refreshSteps) (d : DriveId) (s : State) :
    PinsKept d s (subStep t d s) := by
  cases t with
  | a => exact tickA_pinsKept d s
  | b => exact tickB_pinsKept d s
  | c => exact tickC_pinsKept d s
  | d => exact tickD_pinsKept d s
  | e => exact absurd (by decide) h
  | f => exact tickF_pinsKept d s
  | g => exact tickG_pinsKept d s
  | h => exact tickH_pinsKept d s
  | i => exact tickI_pinsKept d s
  | j => exact tickJ_pinsKept d s
  | jx => exact absurd (by decide) h
  | k => exact tickK_pinsKept d s

/-! ## Lock steps -/

theorem leaveSession_pinsKept (d : DriveId) (s : State) : PinsKept d s (leaveSession d s) := by
  have left := ((PinsKept.refl d s).mod
    (f := fun x => { x with caddy := ⟨[], 0⟩, driveImage := none, mode := .iecCommands }) rfl).emit
    (e := .modeChange d .iecCommands) rfl
  unfold leaveSession
  dsimp only
  split
  · exact (left.emit rfl).setResult _
  · exact left.setResult _

/-- Of the lock steps only the session entry resets the bus (R167). -/
theorem lockStep_pinsKept {t : LockStep} (h : t ≠ .enterSession) (d : DriveId) (s : State) :
    PinsKept d s (lockStep d t s) := by
  cases t with
  | acquire | release => exact .of_trace_eq (by simp [lockStep]) rfl
  | countUp | countDown => exact .of_trace_eq (by simp [lockStep, setInLoop]) (by simp [lockStep, setInLoop])
  | enterSession => exact absurd rfl h
  | leaveSession => exact leaveSession_pinsKept d s

/-- Steps that end before the session entry keep the pins, also where the entry is left for later. -/
theorem runSteps_pinsKept (d : DriveId) (n : Nat) (ts : List LockStep) (s : State)
    (h : .enterSession ∉ ts.take n) : PinsKept d s (runSteps d n ts s) := by
  have stops (us : List LockStep) (u : State) : PinsKept d u (setTodo d us u) := (PinsKept.refl d u).mod rfl
  induction n generalizing ts s with
  | zero => exact stops ts s
  | succ n ih =>
    cases ts with
    | nil => exact stops [] s
    | cons t ts =>
      rw [List.take_succ_cons, List.mem_cons, not_or] at h
      obtain ⟨first, later⟩ := h
      unfold runSteps
      split
      · exact (lockStep_pinsKept (Ne.symm first) d s).trans (ih ts _ later)
      · exact stops (t :: ts) s

theorem startSteps_pinsKept {ts : List LockStep} (h : .enterSession ∉ ts) (d : DriveId) (s : State) :
    PinsKept d s (startSteps ts d s) :=
  runSteps_pinsKept d _ ts s fun taken => h (List.mem_of_mem_take taken)

/-! ## Operations -/

/-- The operations that refresh or run one that does (R133, R137, R167, R190). -/
def refreshingInstrs : List Instr :=
  [.refresh1541, .refresh1581, .busReset, .emulateEnter, .tick, .tickE, .tickJX, .fastpathEvent .fpReset]

theorem accept_pinsKept {s t : State} {pre : Drive → Bool} {op : DriveId → State → State}
    (body : ∀ d s, PinsKept d s (op d s)) (h : accept s pre op = .next t) : PinsKept s.cur s t := by
  obtain ⟨_, _, rfl⟩ := accept_next.1 h
  exact body _ _

theorem exec_tickInstr_pinsKept {n : TickStep} {s t : State} (quiet : n ∉ refreshSteps)
    (h : exec (tickInstr n) s = .next t) : PinsKept s.cur s t := by
  rw [exec_tickInstr] at h
  exact accept_pinsKept (subStep_pinsKept quiet) h

theorem exec_pinsKept {i : Instr} {s t : State} (quiet : i ∉ refreshingInstrs) (h : exec i s = .next t) :
    PinsKept s.cur s t := by
  cases i with
  | refresh1541 | refresh1581 | busReset | emulateEnter | tick | tickE | tickJX => exact absurd (by decide) quiet
  | readBrowse => exact accept_pinsKept (fun d s => (readBrowse_onlySenses d s).pinsKept) h
  | readEmu1541 => exact accept_pinsKept (fun d s => (readEmu1541_onlySenses d s).pinsKept) h
  | readEmu1581 => exact accept_pinsKept (fun d s => (readEmu1581_onlySenses d s).pinsKept) h
  | portBOut status => exact accept_pinsKept (portBOut_pinsKept status) h
  | setSrqOut b => exact accept_pinsKept (setSrqOut_pinsKept b) h
  | pollButtons => exact accept_pinsKept pollButtons_pinsKept h
  | fastpathEvent o =>
    refine accept_pinsKept (fastpathEvent_pinsKept ?_) h
    rintro rfl
    exact quiet (by decide)
  | beginEmulating => exact accept_pinsKept beginEmulating_pinsKept h
  | fastbootStep => exact accept_pinsKept fastbootStep_pinsKept h
  | emulateExit => exact accept_pinsKept (startSteps_pinsKept (ts := emulateExitSteps) (by decide)) h
  | shutdown => exact accept_pinsKept shutdown_pinsKept h
  | ddEnter => exact accept_pinsKept (startSteps_pinsKept (ts := ddEnterSteps) (by decide)) h
  | ddExit => exact accept_pinsKept (startSteps_pinsKept (ts := ddExitSteps) (by decide)) h
  | caddyInsert ro => exact accept_pinsKept (insertImage_pinsKept ro) h
  | selectFirst => exact accept_pinsKept selectFirst_pinsKept h
  | selectImage n => exact accept_pinsKept (selectImage_pinsKept n) h
  | nextDisk => exact accept_pinsKept nextDisk_pinsKept h
  | prevDisk => exact accept_pinsKept prevDisk_pinsKept h
  | getCount => exact accept_pinsKept getCount_pinsKept h
  | tickA => exact exec_tickInstr_pinsKept (n := .a) (by decide) h
  | tickB => exact exec_tickInstr_pinsKept (n := .b) (by decide) h
  | tickC => exact exec_tickInstr_pinsKept (n := .c) (by decide) h
  | tickD => exact exec_tickInstr_pinsKept (n := .d) (by decide) h
  | tickF => exact exec_tickInstr_pinsKept (n := .f) (by decide) h
  | tickG => exact exec_tickInstr_pinsKept (n := .g) (by decide) h
  | tickH => exact exec_tickInstr_pinsKept (n := .h) (by decide) h
  | tickI => exact exec_tickInstr_pinsKept (n := .i) (by decide) h
  | tickJ => exact exec_tickInstr_pinsKept (n := .j) (by decide) h
  | tickK => exact exec_tickInstr_pinsKept (n := .k) (by decide) h

/-! ## Moves -/

/-- Everything a loop's own move can be (R165): lock steps, an operation, or nothing. -/
theorem advance_cases {d : DriveId} {s t : State} (h : advance d s = .next t) :
    (∃ u us, (s.drive d).todo = u :: us ∧ t = runSteps d 1 (u :: us) s) ∨
      (s.drive d).todo = [] ∧
        ((∃ i, loopStep (s.drive d) = .op i ∧ exec i (s.focus d s.side s.unbroken) = .next t) ∨
          (∃ ts, loopStep (s.drive d) = .start ts ∧ t = runSteps d 1 ts s) ∨ t = s) := by
  unfold advance at h
  split at h
  · split at h
    · cases h
    · split at h <;> rename_i todo
      · cases h
        exact .inl ⟨_, _, todo, rfl⟩
      · refine .inr ⟨todo, ?_⟩
        split at h <;> rename_i next
        · exact .inl ⟨_, next, h⟩
        · cases h
          exact .inr (.inl ⟨_, next, rfl⟩)
        · cases h
          exact .inr (.inr rfl)
  · cases h

/-- The operations of the loop are the fast-boot steps and the sub-steps of the ticks (R165). -/
theorem loopStep_op {x : Drive} {i : Instr} (h : loopStep x = .op i) :
    i = .fastbootStep ∨ x.phase = .realtime ∧ i = tickInstr x.tickStep := by
  unfold loopStep at h
  split at h
  · split at h <;> rename_i phase
    · cases h
      exact .inl rfl
    · cases h
      exact .inr ⟨phase, rfl⟩
    · split at h
      · cases h
      · split at h <;> cases h
  · cases h

/-- An operation of several steps begins with the lock: a list that begins with the session entry has no other step
(R167, R188). -/
theorem loopStep_start_take {x : Drive} {ts : List LockStep} (h : loopStep x = .start ts) :
    .enterSession ∉ ts.take 1 := by
  obtain ⟨opens, fits⟩ := loopStep_start h
  cases ts with
  | nil => simp
  | cons t ts =>
    intro first
    obtain rfl : LockStep.enterSession = t := by simpa using first
    obtain rfl : ts = [] := (legalTodo_cons fits.legal).2
    simp at opens

/-- The session entry and the refreshing sub-steps are not next for the loop. -/
structure QuietNext (x : Drive) : Prop where
  lock : x.todo.head? ≠ some .enterSession
  tick : x.todo = [] → x.phase = .realtime → x.tickStep ∉ refreshSteps

theorem exec_focus_pinsKept {i : Instr} {d : DriveId} {side : SideData} {n : Nat} {s t : State}
    (quiet : i ∉ refreshingInstrs) (h : exec i (s.focus d side n) = .next t) : PinsKept d s t := by
  obtain ⟨out, trace⟩ := exec_pinsKept quiet h
  exact ⟨by simpa using out, trace⟩

theorem tickInstr_notMem {n : TickStep} (h : n ∉ refreshSteps) : tickInstr n ∉ refreshingInstrs := by
  revert h
  cases n <;> decide

theorem advance_pinsKept {d : DriveId} {s t : State} (quiet : QuietNext (s.drive d)) (h : advance d s = .next t) :
    PinsKept d s t := by
  obtain ⟨u, us, todo, rfl⟩ | ⟨todo, ⟨i, next, h⟩ | ⟨ts, next, rfl⟩ | rfl⟩ := advance_cases h
  · have lock := quiet.lock
    rw [todo, List.head?_cons] at lock
    exact runSteps_pinsKept d 1 (u :: us) s (by simpa [eq_comm] using lock)
  · refine exec_focus_pinsKept ?_ h
    obtain rfl | ⟨phase, rfl⟩ := loopStep_op next
    · decide
    · exact tickInstr_notMem (quiet.tick todo phase)
  · exact runSteps_pinsKept d 1 ts s (loopStep_start_take next)
  · exact .refl d t

theorem request_pinsKept {d : DriveId} {r : Request} {s t : State} (h : request d r s = .next t) :
    PinsKept d s t := by
  unfold request at h
  split at h
  · cases h
    exact (PinsKept.refl d s).mod rfl
  · cases h

/-- What holds from the state without its first move holds from the state: a move is no pin. -/
theorem PinsKept.of_agenda {d : DriveId} {s t : State} {ms : List Move}
    (h : PinsKept d { s with agenda := ms } t) : PinsKept d s t :=
  ⟨by simpa using h.out, h.trace⟩

/-- Settles O19: outside the refreshing operations and moves, everything is built from steps that keep the pins. -/
theorem pinsChangeOnlyInRefresh : Obligations.PinsChangeOnlyInRefresh := by
  refine ⟨fun i s t h quiet => ?_, fun s t d rest h move => ?_⟩
  · obtain ⟨out, trace⟩ := exec_pinsKept quiet h
    exact ⟨out, trace⟩
  · suffices kept : PinsKept d s t from ⟨kept.out, kept.trace⟩
    obtain ⟨agenda, lock, tick⟩ | ⟨r, agenda⟩ := move <;> rw [step_eq_runMove agenda] at h
    · have quiet : QuietNext (s.drive d) := ⟨lock, fun todo phase refreshes => tick ⟨todo, phase, refreshes⟩⟩
      exact (advance_pinsKept (by rwa [drive_agenda]) h).of_agenda
    · exact (request_pinsKept h).of_agenda

end Sys2Proof.Machine
end

-- ==== Polling the buttons ====
section
/-! SUPPORT. One poll of one button, case by case (`42_debounce.md` R151), and what it makes of the count (R152) and of
the repeat threshold (R153); a poll of the file is the same, button by button. -/

namespace Sys2Proof.Machine

/-! ## One poll of one button -/

section
variable {c : Config} {b : Button}

/-- A released poll clears the button (R151). -/
theorem pollButton_released (c : Config) (b : Button) : pollButton c false b = ⟨false, 0, 0, 0, false, false⟩ := rfl

/-- The poll that reaches the threshold fires and sets the first repeat threshold (R151, R153). -/
theorem pollButton_reaching (reached : b.count + 1 = c.debounceThreshold) :
    pollButton c true b =
      ⟨true, c.debounceThreshold, c.debounceThreshold + repeatInterval c 1, 1, true, true⟩ := by
  simp [pollButton, reached]

/-- The poll that reaches the repeat threshold fires and moves it by the next interval (R151, R153). -/
theorem pollButton_repeating (other : b.count + 1 ≠ c.debounceThreshold) (pressed : b.pressed = true)
    (reached : b.count + 1 = b.repThr) :
    pollButton c true b =
      ⟨true, b.count + 1, b.repThr + repeatInterval c (b.repCnt + 1), b.repCnt + 1, true, true⟩ := by
  simp [pollButton, other, pressed, ← reached]

/-- Every other asserted poll only counts (R151). -/
theorem pollButton_counting (other : b.count + 1 ≠ c.debounceThreshold)
    (between : ¬ (b.pressed = true ∧ b.count + 1 = b.repThr)) :
    pollButton c true b = ⟨true, b.count + 1, b.repThr, b.repCnt, b.pressed, false⟩ := by
  simp [pollButton, other, between]

/-- Everything an asserted poll can do. -/
theorem pollButton_asserted_cases (c : Config) (b : Button) :
    (b.count + 1 = c.debounceThreshold ∧ pollButton c true b =
        ⟨true, c.debounceThreshold, c.debounceThreshold + repeatInterval c 1, 1, true, true⟩) ∨
      (b.count + 1 ≠ c.debounceThreshold ∧ b.pressed = true ∧ b.count + 1 = b.repThr ∧ pollButton c true b =
        ⟨true, b.count + 1, b.repThr + repeatInterval c (b.repCnt + 1), b.repCnt + 1, true, true⟩) ∨
      (b.count + 1 ≠ c.debounceThreshold ∧ ¬ (b.pressed = true ∧ b.count + 1 = b.repThr) ∧ pollButton c true b =
        ⟨true, b.count + 1, b.repThr, b.repCnt, b.pressed, false⟩) := by
  by_cases reached : b.count + 1 = c.debounceThreshold
  · exact .inl ⟨reached, pollButton_reaching reached⟩
  · by_cases repeats : b.pressed = true ∧ b.count + 1 = b.repThr
    · exact .inr (.inl ⟨reached, repeats.1, repeats.2, pollButton_repeating reached repeats.1 repeats.2⟩)
    · exact .inr (.inr ⟨reached, repeats, pollButton_counting reached repeats⟩)

/-- An asserted poll counts, in every case (R152). -/
theorem pollButton_asserted_count (c : Config) (b : Button) : (pollButton c true b).count = b.count + 1 := by
  obtain ⟨reached, poll⟩ | ⟨_, _, _, poll⟩ | ⟨_, _, poll⟩ := pollButton_asserted_cases c b <;> rw [poll]
  exact reached.symm

/-- A count moves by one, so it does not pass the threshold unseen (R152). -/
theorem decide_le_succ_of_ne {m n : Nat} (h : n + 1 ≠ m) : decide (m ≤ n + 1) = decide (m ≤ n) :=
  decide_eq_decide.2 (by omega)

/-- A poll keeps the button pressed exactly from the threshold on (R152, P6). -/
theorem pollButton_pressed (threshold : 1 ≤ c.debounceThreshold) (a : Bool)
    (pressed : b.pressed = decide (c.debounceThreshold ≤ b.count)) :
    (pollButton c a b).pressed = decide (c.debounceThreshold ≤ (pollButton c a b).count) := by
  cases a with
  | false =>
    rw [pollButton_released]
    exact (decide_eq_false (Nat.not_le.2 threshold)).symm
  | true =>
    obtain ⟨_, poll⟩ | ⟨other, held, _, poll⟩ | ⟨other, _, poll⟩ := pollButton_asserted_cases c b <;> rw [poll]
    · exact (decide_eq_true le_rfl).symm
    · rw [decide_le_succ_of_ne other, ← pressed, held]
    · rw [decide_le_succ_of_ne other, ← pressed]

end

/-! ## `POLL_BUTTONS` -/

/-- A button whose mask is at its index is polled by the bit of that mask (R150, R151). -/
theorem pollFile_polled {c : Config} {raw m : RawWord} {masks : List RawWord} {bs : List Button} {b : Button} {i : Nat}
    (mask : masks[i]? = some m) (button : bs[i]? = some b) :
    (pollFile c raw masks bs)[i]? = some (pollButton c (buttonAsserted raw m) b) := by
  rw [pollFile_getElem?, mask, button]

/-- A button without a mask is not polled (R150). -/
theorem pollFile_unmasked {c : Config} {raw : RawWord} {masks : List RawWord} {bs : List Button} {i : Nat}
    (unmasked : masks.length ≤ i) : (pollFile c raw masks bs)[i]? = bs[i]? := by
  rw [pollFile_getElem?, List.getElem?_eq_none unmasked]

/-- A sample is polled once: the poll itself forbids the next one (R151, D31). -/
theorem exec_pollButtons_again {s : State} (r : s.ready) :
    exec .pollButtons (pollButtons s.cur s) = .refused .outOfPlace := by
  have outside := pollButtons_outside s.cur s
  refine accept_outOfPlace ((pollButtons_control s.cur s).ready outside r) ?_
  rw [mayPoll_iff, State.self, outside.cur, pollButtons_drive]
  simp

/-- Settles O20: the file is polled button by button, and each case of a button is one case of `pollButton`. -/
theorem pollButtonsResult : Obligations.PollButtonsResult := by
  intro s r eligible fresh d n
  have run : exec .pollButtons s = .next (pollButtons d s) :=
    accept_ready r ((mayPoll_iff _ _ _).2 ⟨eligible, fresh⟩)
  refine ⟨pollFile s.cfg s.self.rawSample s.cfg.pinButtons s.self.buttons, pollButtons d s, mod_congr _ _ _ _ rfl, run,
    exec_pollButtons_again r, pollFile_length _ _ _ _, fun i => pollFile_unmasked, fun i m b mask button => ?_⟩
  rw [pollFile_polled mask button]
  have asserted (h : s.self.rawSample &&& m = 0) : buttonAsserted s.self.rawSample m = true := buttonAsserted_iff.2 h
  refine ⟨fun h => ?_, fun h reached => ?_, fun h other pressed reached => ?_, fun h other between => ?_⟩
  · have released : buttonAsserted s.self.rawSample m = false := by
      simpa using mt buttonAsserted_iff.1 h
    rw [released, pollButton_released]
  · rw [asserted h, pollButton_reaching reached]
  · rw [asserted h, pollButton_repeating other pressed reached]
  · rw [asserted h, pollButton_counting other between]

/-! ## Sequences of polls -/

/-- A button polled from power-on by the signals of a list, the first one first. -/
def polled (c : Config) (polls : List Bool) : Button :=
  polls.foldl (fun b a => pollButton c a b) Button.powerOn

theorem polled_append (c : Config) (polls : List Bool) (a : Bool) :
    polled c (polls ++ [a]) = pollButton c a (polled c polls) :=
  List.foldl_concat _ _ _ _

/-- The count is the length of the run of asserted polls at the end (R152). -/
theorem polled_count (c : Config) (polls : List Bool) :
    (polled c polls).count = (polls.reverse.takeWhile id).length := by
  induction polls using List.reverseRecOn with
  | nil => rfl
  | append_singleton polls a ih =>
    rw [polled_append, List.reverse_append]
    cases a with
    | false => rfl
    | true => simp [pollButton_asserted_count, ih]

theorem polled_pressed {c : Config} (threshold : 1 ≤ c.debounceThreshold) (polls : List Bool) :
    (polled c polls).pressed = decide (c.debounceThreshold ≤ (polled c polls).count) := by
  induction polls using List.reverseRecOn with
  | nil => exact (powerOn_buttonOk threshold).pressed
  | append_singleton polls a ih =>
    rw [polled_append]
    exact pollButton_pressed threshold a ih

/-- Settles O21: each poll lengthens the run or ends it, and keeps a button pressed exactly from the threshold on. -/
theorem debounceRunLength : Obligations.DebounceRunLength :=
  fun c polls threshold => ⟨polled_count c polls, polled_pressed threshold polls⟩

/-! ## The repeat schedule -/

/-- The poll at which a button held from a release fires after `j` earlier firings: `N + I(1) + ... + I(j)` (R153). -/
def firingPoll (c : Config) (j : Nat) : Nat :=
  c.debounceThreshold + ((List.range j).map fun k => repeatInterval c (k + 1)).sum

@[simp] theorem firingPoll_zero (c : Config) : firingPoll c 0 = c.debounceThreshold := rfl

theorem firingPoll_succ (c : Config) (j : Nat) : firingPoll c (j + 1) = firingPoll c j + repeatInterval c (j + 1) := by
  simp [firingPoll, List.range_succ, Nat.add_assoc]

section
variable {c : Config}

theorem firingPoll_strictMono (intervals : IntervalsPositive c) : StrictMono (firingPoll c) :=
  strictMono_nat_of_lt_succ fun j => by
    have := intervals (j + 1)
    rw [firingPoll_succ]
    omega

theorem threshold_le_firingPoll (c : Config) (j : Nat) : c.debounceThreshold ≤ firingPoll c j :=
  Nat.le_add_right _ _

/-- A poll between two adjacent firing polls, the first of them included, fires only if it is the first (R153). -/
theorem eq_firingPoll_iff (intervals : IntervalsPositive c) {n j : Nat} (fired : firingPoll c j ≤ n)
    (ahead : n < firingPoll c (j + 1)) : (∃ i, n = firingPoll c i) ↔ n = firingPoll c j := by
  refine ⟨?_, fun h => ⟨j, h⟩⟩
  rintro ⟨i, rfl⟩
  have mono := firingPoll_strictMono intervals
  have before : j ≤ i := mono.le_iff_le.1 fired
  have after : i < j + 1 := mono.lt_iff_lt.1 ahead
  rw [show i = j by omega]

/-- A button held for `n` polls from a release waits for the threshold, or stands between two adjacent firing polls, its
repeat threshold at the later one (R151, R153). -/
theorem polled_held_cases (threshold : 1 ≤ c.debounceThreshold) (intervals : IntervalsPositive c) (n : Nat) :
    (n < c.debounceThreshold ∧ polled c (List.replicate n true) = ⟨decide (0 < n), n, 0, 0, false, false⟩) ∨
      ∃ j, firingPoll c j ≤ n ∧ n < firingPoll c (j + 1) ∧
        polled c (List.replicate n true) =
          ⟨true, n, firingPoll c (j + 1), j + 1, true, decide (n = firingPoll c j)⟩ := by
  induction n with
  | zero => exact .inl ⟨threshold, rfl⟩
  | succ n ih =>
    rw [List.replicate_succ', polled_append]
    obtain ⟨waits, held⟩ | ⟨j, fired, ahead, held⟩ := ih <;> rw [held]
    · by_cases reached : n + 1 = c.debounceThreshold
      · have next := firingPoll_strictMono intervals Nat.zero_lt_one
        rw [firingPoll_zero] at next
        refine .inr ⟨0, reached.ge, reached.trans_lt next, ?_⟩
        rw [pollButton_reaching reached, firingPoll_succ]
        simp [reached]
      · refine .inl ⟨by omega, ?_⟩
        rw [pollButton_counting reached (by simp)]
        simp
    · have other : n + 1 ≠ c.debounceThreshold := by
        have := threshold_le_firingPoll c j
        omega
      by_cases reached : n + 1 = firingPoll c (j + 1)
      · have next := firingPoll_strictMono intervals (Nat.lt_succ_self (j + 1))
        refine .inr ⟨j + 1, reached.ge, reached.trans_lt next, ?_⟩
        rw [pollButton_repeating other rfl reached, firingPoll_succ c (j + 1)]
        simp [reached]
      · refine .inr ⟨j, by omega, by omega, ?_⟩
        rw [pollButton_counting other (by simp [reached])]
        simp [show n + 1 ≠ firingPoll c j by omega]

end

/-- Settles O22: where a held button stands in its schedule says whether its last poll fired. -/
theorem repeatSchedule : Obligations.RepeatSchedule := by
  intro c n threshold intervals
  change (polled c (List.replicate n true)).fired = true ↔ ∃ j, n = firingPoll c j
  obtain ⟨waits, held⟩ | ⟨j, fired, ahead, held⟩ := polled_held_cases threshold intervals n <;> rw [held]
  · refine iff_of_false Bool.false_ne_true ?_
    rintro ⟨j, rfl⟩
    exact (threshold_le_firingPoll c j).not_gt waits
  · rw [eq_firingPoll_iff intervals fired ahead, decide_eq_true_iff]

end Sys2Proof.Machine
end

-- ==== What every step keeps of the debouncer ====
section
/-! SUPPORT. Every step keeps the debouncer right (`10_state.md` R36, `42_debounce.md` R151, R152): the button file
changes by polls alone, and a poll keeps each button right. -/

namespace Sys2Proof.Machine

/-- A poll keeps a button right: pressed from the threshold on, and the next firing ahead (R151 corner case 4). -/
theorem ButtonOk.poll {c : Config} {b : Button} (h : ButtonOk c b) (threshold : 1 ≤ c.debounceThreshold)
    (intervals : IntervalsPositive c) (a : Bool) : ButtonOk c (pollButton c a b) := by
  have pressed := pollButton_pressed threshold a h.pressed
  cases a with
  | false => exact ⟨pressed, nofun, rfl, nofun⟩
  | true =>
    obtain ⟨_, poll⟩ | ⟨_, _, reached, poll⟩ | ⟨_, between, poll⟩ := pollButton_asserted_cases c b <;>
      rw [poll] at pressed ⊢
    · exact ⟨pressed, fun _ => Nat.lt_add_of_pos_right (intervals 1), (decide_eq_true threshold).symm, fun _ => rfl⟩
    · refine ⟨pressed, fun _ => ?_, by simp, fun _ => rfl⟩
      exact reached.trans_lt (Nat.lt_add_of_pos_right (intervals (b.repCnt + 1)))
    · refine ⟨pressed, fun held => ?_, by simp, nofun⟩
      exact lt_of_le_of_ne (h.ahead held) fun reached => between ⟨held, reached⟩

/-! ## Changing the buttons by polls alone -/

/-- From `s` to `t` the buttons of drive `d` change by polls alone, and the configuration that they are polled by does
not change: what every poll keeps of a button is kept. -/
structure OnlyPolls (d : DriveId) (s t : State) : Prop where
  cfg : t.cfg = s.cfg
  length : (t.drive d).buttons.length = (s.drive d).buttons.length
  buttons : ∀ P : Button → Prop, (∀ a b, P b → P (pollButton s.cfg a b)) →
    (∀ b ∈ (s.drive d).buttons, P b) → ∀ b ∈ (t.drive d).buttons, P b

section
variable {d : DriveId} {s t u : State}

theorem OnlyPolls.of_buttons_eq (cfg : t.cfg = s.cfg) (buttons : (t.drive d).buttons = (s.drive d).buttons) :
    OnlyPolls d s t :=
  ⟨cfg, by rw [buttons], fun _ _ h => by rwa [buttons]⟩

theorem OnlyPolls.refl (d : DriveId) (s : State) : OnlyPolls d s s :=
  .of_buttons_eq rfl rfl

theorem OnlyPolls.trans (h : OnlyPolls d s t) (k : OnlyPolls d t u) : OnlyPolls d s u where
  cfg := k.cfg.trans h.cfg
  length := k.length.trans h.length
  buttons P keeps start := k.buttons P (by rwa [h.cfg]) (h.buttons P keeps start)

/-- An operation that keeps the control of its drive polls its buttons at most. -/
theorem SameControl.onlyPolls (h : SameControl s.cfg (s.drive d) (t.drive d)) (o : SameOutside d s t) :
    OnlyPolls d s t :=
  ⟨o.cfg, h.length, h.buttons⟩

theorem OnlyPolls.mod (h : OnlyPolls d s t) {f : Drive → Drive}
    (buttons : (f (t.drive d)).buttons = (t.drive d).buttons) : OnlyPolls d s (t.mod d f) :=
  h.trans (.of_buttons_eq (mod_cfg _ _ _) (by rwa [drive_mod_self]))

theorem OnlyPolls.emit (h : OnlyPolls d s t) (e : Event) : OnlyPolls d s (t.emit e) :=
  h.trans (.of_buttons_eq rfl (by rw [drive_emit]))

theorem OnlyPolls.setResult (h : OnlyPolls d s t) (r : OpResult) : OnlyPolls d s (setResult d r t) :=
  h.mod rfl

theorem OnlyPolls.setCaddy (h : OnlyPolls d s t) (y : Caddy) : OnlyPolls d s (setCaddy d y t) :=
  h.mod rfl

/-- Changing by polls alone keeps the file right. -/
theorem OnlyPolls.debounceOk (h : OnlyPolls d s t) (threshold : 1 ≤ s.cfg.debounceThreshold)
    (intervals : IntervalsPositive s.cfg) (ok : DebounceOk s.cfg (s.drive d)) : DebounceOk t.cfg (t.drive d) := by
  obtain ⟨length, right⟩ := ok
  rw [h.cfg]
  exact ⟨h.length.trans length, h.buttons _ (fun a _ ok => ok.poll threshold intervals a) right⟩

end

/-! ## Operations outside the tick -/

theorem readBrowse_onlyPolls (d : DriveId) (s : State) : OnlyPolls d s (readBrowse d s) := by
  unfold readBrowse
  split
  · exact .of_buttons_eq (notImpl_outside d s).cfg (by rw [notImpl_drive])
  · split
    · have sampled : OnlyPolls d s (gpioRead d s) :=
        .of_buttons_eq (gpioRead_outside d s).cfg (by rw [gpioRead_drive])
      exact (sampled.mod rfl).trans ((pollButtons_control d _).onlyPolls (pollButtons_outside d _))
    · exact .refl d s

theorem beginEmulating_onlyPolls (d : DriveId) (s : State) : OnlyPolls d s (beginEmulating d s) := by
  refine .of_buttons_eq (beginEmulating_outside d s).cfg ?_
  obtain ⟨_, same⟩ | ⟨_, _, record⟩ := beginEmulating_cases d s
  · rw [same]
  · rw [record]

theorem caddyInsert_onlyPolls (file : FileInfo) (ro : Bool) (d : DriveId) (s : State) :
    OnlyPolls d s (caddyInsert file ro d s).2 := by
  refine .of_buttons_eq (caddyInsert_outside file ro d s).cfg ?_
  obtain ⟨_, _, _, _, _, record⟩ | ⟨_, _, record⟩ := caddyInsert_cases file ro d s <;> rw [record]

theorem imageSelected_onlyPolls (d : DriveId) (s : State) : OnlyPolls d s (imageSelected d s) := by
  unfold imageSelected
  dsimp only
  have inserted := ((OnlyPolls.refl d s).mod (f := fun x => x.modLatches fun l => { l with reqMount := none }) rfl).trans
    (caddyInsert_onlyPolls s.side.file s.side.readOnly d _)
  split
  · split
    · exact (inserted.setCaddy _).trans (beginEmulating_onlyPolls d _)
    · exact inserted.trans (beginEmulating_onlyPolls d _)
  · exact inserted.emit _

theorem stateChange_onlyPolls (d : DriveId) (s : State) : OnlyPolls d s (stateChange d s) := by
  unfold stateChange
  split
  · exact .refl d s
  · exact (OnlyPolls.refl d s).mod rfl

theorem busReset_onlyPolls (d : DriveId) (s : State) : OnlyPolls d s (busReset d s) :=
  (busReset_control _ d s).onlyPolls (busReset_outside d s)

theorem fastpathEvent_onlyPolls (o : FastPathOutcome) (d : DriveId) (s : State) :
    OnlyPolls d s (fastpathEvent o d s) := by
  cases o with
  | imageSelected => exact imageSelected_onlyPolls d s
  | stateChange => exact stateChange_onlyPolls d s
  | fpReset => exact busReset_onlyPolls d s

theorem fastbootStep_onlyPolls (d : DriveId) (s : State) : OnlyPolls d s (fastbootStep d s) := by
  refine ((cpuStep_control _ d s).onlyPolls (cpuStep_outside d s)).mod ?_
  dsimp only
  split <;> rfl

theorem shutdown_onlyPolls (d : DriveId) (s : State) : OnlyPolls d s (shutdown d s) :=
  ((OnlyPolls.refl d s).mod rfl).emit _

/-! ## The tick -/

theorem tickI_onlyPolls (d : DriveId) (s : State) : OnlyPolls d s (tickI d s) := by
  refine .of_buttons_eq (tickI_outside d s).cfg ?_
  obtain ⟨_, _, record⟩ | ⟨_, _, _, _, record⟩ := tickI_cases d s <;> rw [record]

theorem tickK_onlyPolls (d : DriveId) (s : State) : OnlyPolls d s (tickK d s) := by
  obtain ⟨_, _, _, served, _⟩ := serviceSwap_cases s.cfg (s.drive d)
  exact (OnlyPolls.refl d s).mod (by rw [served]; rfl)

/-- Of the sub-steps only h polls (R180). -/
theorem subStep_onlyPolls (t : TickStep) (d : DriveId) (s : State) : OnlyPolls d s (subStep t d s) := by
  have outside := subStep_outside t d s
  cases t with
  | a => exact (tickA_control _ d s).onlyPolls outside
  | b => exact (tickB_control _ d s).onlyPolls outside
  | c => exact (tickC_control _ d s).onlyPolls outside
  | d => exact (tickD_control _ d s).onlyPolls outside
  | e => exact (tickE_control _ d s).onlyPolls outside
  | f => exact (tickF_control _ d s).onlyPolls outside
  | g => exact (tickG_control _ d s).onlyPolls outside
  | h => exact (tickH_control d s).onlyPolls outside
  | i => exact tickI_onlyPolls d s
  | j => exact (tickJ_control _ d s).onlyPolls outside
  | jx => exact (tickJX_control _ d s).onlyPolls outside
  | k => exact tickK_onlyPolls d s

theorem runTick_onlyPolls (d : DriveId) (n : Nat) (ts : List TickStep) (s : State) :
    OnlyPolls d s (runTick d n ts s) := by
  induction n generalizing ts s with
  | zero => exact .refl d s
  | succ n ih =>
    cases ts with
    | nil => exact .refl d s
    | cons t ts =>
      dsimp only [runTick]
      split
      · exact subStep_onlyPolls t d s
      · exact (subStep_onlyPolls t d s).trans (ih ts _)

/-! ## Lock steps -/

/-- No lock step polls (R210). -/
theorem lockStep_onlyPolls (d : DriveId) (t : LockStep) (s : State) : OnlyPolls d s (lockStep d t s) := by
  refine .of_buttons_eq (lockStep_cfg d t s) ?_
  cases t with
  | acquire | release => simp [lockStep]
  | countUp | countDown => simp [lockStep, setInLoop]
  | enterSession =>
    obtain ⟨_, _, _, _, record⟩ := enterSession_drive d s
    rw [lockStep, record]
  | leaveSession => rw [lockStep, leaveSession_drive]

theorem runSteps_onlyPolls (d : DriveId) (n : Nat) (ts : List LockStep) (s : State) :
    OnlyPolls d s (runSteps d n ts s) :=
  runSteps_ind (P := OnlyPolls d s) d (fun _ _ h => h.mod rfl) (fun t u h => h.trans (lockStep_onlyPolls d t u)) n ts s
    (.refl d s)

/-! ## Operations and moves -/

theorem accept_onlyPolls {s t : State} {pre : Drive → Bool} {op : DriveId → State → State}
    (body : ∀ d s, OnlyPolls d s (op d s)) (h : accept s pre op = .next t) : OnlyPolls s.cur s t := by
  obtain ⟨_, _, rfl⟩ := accept_next.1 h
  exact body _ _

theorem accept_onlyPolls_of_control {s t : State} {pre : Drive → Bool} {op : DriveId → State → State}
    (outside : ∀ d s, SameOutside d s (op d s)) (control : ∀ d s, SameControl s.cfg (s.drive d) ((op d s).drive d))
    (h : accept s pre op = .next t) : OnlyPolls s.cur s t :=
  accept_onlyPolls (fun d s => (control d s).onlyPolls (outside d s)) h

theorem exec_tickInstr_onlyPolls (n : TickStep) {s t : State} (h : exec (tickInstr n) s = .next t) :
    OnlyPolls s.cur s t := by
  rw [exec_tickInstr] at h
  exact accept_onlyPolls (subStep_onlyPolls n) h

theorem exec_onlyPolls {i : Instr} {s t : State} (h : exec i s = .next t) : OnlyPolls s.cur s t := by
  cases i with
  | busReset => exact accept_onlyPolls busReset_onlyPolls h
  | readBrowse => exact accept_onlyPolls readBrowse_onlyPolls h
  | readEmu1541 => exact accept_onlyPolls_of_control readEmu1541_outside (fun _ _ => readEmu1541_control _ _ _) h
  | readEmu1581 => exact accept_onlyPolls_of_control readEmu1581_outside (fun _ _ => readEmu1581_control _ _ _) h
  | refresh1541 | refresh1581 => exact accept_onlyPolls_of_control refresh_outside (fun _ _ => refresh_control _ _ _) h
  | portBOut status =>
    exact accept_onlyPolls_of_control (portBOut_outside status) (fun _ _ => portBOut_control _ _ _ _) h
  | setSrqOut b => exact accept_onlyPolls_of_control (setSrqOut_outside b) (fun _ _ => setSrqOut_control _ _ _ _) h
  | pollButtons => exact accept_onlyPolls_of_control pollButtons_outside pollButtons_control h
  | fastpathEvent o => exact accept_onlyPolls (fastpathEvent_onlyPolls o) h
  | beginEmulating => exact accept_onlyPolls beginEmulating_onlyPolls h
  | fastbootStep => exact accept_onlyPolls fastbootStep_onlyPolls h
  | tick => exact accept_onlyPolls (fun _ _ => runTick_onlyPolls _ _ _ _) h
  | emulateEnter | emulateExit | ddEnter | ddExit => exact accept_onlyPolls (fun _ _ => runSteps_onlyPolls _ _ _ _) h
  | shutdown => exact accept_onlyPolls shutdown_onlyPolls h
  | caddyInsert ro => exact accept_onlyPolls (fun _ _ => (caddyInsert_onlyPolls _ ro _ _).setResult _) h
  | selectFirst | selectImage _ => exact accept_onlyPolls (fun d s => ((OnlyPolls.refl d s).setCaddy _).setResult _) h
  | nextDisk | prevDisk => exact accept_onlyPolls (fun d s => (OnlyPolls.refl d s).setCaddy _) h
  | getCount => exact accept_onlyPolls (fun d s => (OnlyPolls.refl d s).setResult _) h
  | tickA => exact exec_tickInstr_onlyPolls .a h
  | tickB => exact exec_tickInstr_onlyPolls .b h
  | tickC => exact exec_tickInstr_onlyPolls .c h
  | tickD => exact exec_tickInstr_onlyPolls .d h
  | tickE => exact exec_tickInstr_onlyPolls .e h
  | tickF => exact exec_tickInstr_onlyPolls .f h
  | tickG => exact exec_tickInstr_onlyPolls .g h
  | tickH => exact exec_tickInstr_onlyPolls .h h
  | tickI => exact exec_tickInstr_onlyPolls .i h
  | tickJ => exact exec_tickInstr_onlyPolls .j h
  | tickJX => exact exec_tickInstr_onlyPolls .jx h
  | tickK => exact exec_tickInstr_onlyPolls .k h

theorem exec_focus_onlyPolls {i : Instr} {d : DriveId} {side : SideData} {n : Nat} {s t : State}
    (h : exec i (s.focus d side n) = .next t) : OnlyPolls d s t := by
  have focused : OnlyPolls d s (s.focus d side n) := .of_buttons_eq rfl (by simp)
  exact focused.trans (exec_onlyPolls h)

theorem runMove_onlyPolls {m : Move} {s t : State} (h : runMove m s = .next t) : OnlyPolls m.drive s t := by
  cases m with
  | issue d word side n =>
    rw [runMove, issueWord] at h
    split at h
    · exact exec_focus_onlyPolls h
    · cases h
  | advance d =>
    obtain ⟨u, us, _, rfl⟩ | ⟨_, ⟨i, _, h⟩ | ⟨ts, _, rfl⟩ | rfl⟩ := advance_cases h
    · exact runSteps_onlyPolls d 1 (u :: us) s
    · exact exec_focus_onlyPolls h
    · exact runSteps_onlyPolls d 1 ts s
    · exact .refl d t
  | request d r =>
    rw [runMove, request] at h
    split at h
    · cases h
      exact (OnlyPolls.refl d s).mod rfl
    · cases h

/-- A move keeps the debouncer right: its own drive is polled at most, and the other drive is left alone (R72). -/
theorem runMove_debounceOk {m : Move} {s t : State} (threshold : 1 ≤ s.cfg.debounceThreshold)
    (intervals : IntervalsPositive s.cfg) (ok : ∀ d, DebounceOk s.cfg (s.drive d)) (h : runMove m s = .next t) :
    ∀ d, DebounceOk t.cfg (t.drive d) := by
  have own := runMove_onlyPolls h
  have other := runMove_otherUntouched h
  refine (forall_drive m.drive).2 ⟨own.debounceOk threshold intervals (ok _), ?_⟩
  rw [other.cfg, other.other]
  exact ok _

/-- Settles O56: a step without a move changes nothing, and a move changes the buttons by polls alone. -/
theorem stepKeepsDebounceInvariant : Obligations.StepKeepsDebounceInvariant := by
  intro s t threshold intervals ok h
  unfold step runAgenda at h
  split at h
  · cases h
    exact ⟨rfl, ok⟩
  · rename_i m rest _
    have kept : ∀ d, DebounceOk s.cfg (({ s with agenda := rest } : State).drive d) := by simpa using ok
    exact ⟨(runMove_otherUntouched h).cfg,
      runMove_debounceOk (s := { s with agenda := rest }) threshold intervals kept h⟩

end Sys2Proof.Machine
end

-- ==== The CPU step ====
section
/-! SUPPORT. The two operations that step the CPU (`43_loop.md` R168, R176): the chip's calls are the words
`PORTB_OUT` and `SET_SRQ_OUT`, issued one after the other (`20_memory.md` R62), and the CPU has stepped after them. -/

namespace Sys2Proof.Machine

/-! ## The chip's calls as operations -/

/-- A drive that uses up an answer stays ready. -/
theorem spend_ready {s : State} (r : s.ready) (p : Port) : (s.spend s.cur p).ready :=
  (spend_control s.cfg s s.cur p).ready (spend_outside s s.cur p) r

theorem exec_chipCall {s : State} (r : s.ready) (call : ChipCall) :
    exec (ChipCall.instr call) s = .next (chipCall s.cur s call) := by
  cases call with
  | portBOut status => exact accept_ready (pre := anywhere) r rfl
  | setSrqOut b => exact accept_ready (pre := anywhere) r rfl

/-- A chip call leaves its drive ready for the next, so the calls all go on (R62). -/
theorem execAll_chipCalls {s : State} (r : s.ready) (calls : List ChipCall) :
    execAll (calls.map ChipCall.instr) s = .next (calls.foldl (chipCall s.cur) s) := by
  induction calls generalizing s with
  | nil => rfl
  | cons call calls ih =>
    have outside := chipCall_outside s.cur s call
    have rest := ih ((chipCall_control s.cfg s.cur s call).ready outside r)
    rw [outside.cur] at rest
    simpa [execAll, exec_chipCall r] using rest

/-- The state after the chip's calls, before the CPU has stepped (R62). -/
def afterCalls (d : DriveId) (s : State) : State :=
  (s.callsAnswer d).foldl (chipCall d) (s.spend d .calls)

theorem cpuStep_eq_afterCalls (d : DriveId) (s : State) : cpuStep d s = (afterCalls d s).emit (.cpuStep d) := rfl

/-- The calls write the line flags and use up answers; nothing else of the record changes (R131, R136). -/
theorem afterCalls_drive (d : DriveId) (s : State) :
    ∃ l e, (afterCalls d s).drive d = { s.drive d with lines := l, env := e } := by
  obtain ⟨l, e, record⟩ := cpuStep_drive d s
  exact ⟨l, e, by rwa [cpuStep_eq_afterCalls, drive_emit] at record⟩

/-- The calls of one CPU step as operations, after the answer that lists them is used up. -/
theorem execAll_calls {s : State} (r : s.ready) :
    execAll ((s.callsAnswer s.cur).map ChipCall.instr) (s.spend s.cur .calls) = .next (afterCalls s.cur s) := by
  have run := execAll_chipCalls (spend_ready r .calls) (s.callsAnswer s.cur)
  rwa [spend_cur] at run

/-! ## `FASTBOOT_STEP` and `TICK_D` -/

/-- A fast-boot step counts from the cycles before it, and the cycle that completes the fast boot starts the real-time
phase (R168). -/
theorem fastbootStep_eq {d : DriveId} {s : State} {n : Nat} (fast : (s.drive d).phase = .fastboot)
    (count : (s.drive d).session.cycleCount + 1 = n) :
    fastbootStep d s =
      ((afterCalls d s).mod d fun x =>
        { x with
          session := { x.session with cycleCount := n }
          phase := if n = s.cfg.fastBootCycles then .realtime else .fastboot
          tickStep := if n = s.cfg.fastBootCycles then .a else x.tickStep }).emit (.cpuStep d) := by
  obtain ⟨l, e, record⟩ := afterCalls_drive d s
  rw [fastbootStep, cpuStep_eq_afterCalls, ← emit_mod]
  refine mod_congr _ _ _ _ ?_
  rw [drive_emit, record]
  dsimp only [Drive.modSession]
  rw [count]
  split
  · rfl
  · rw [fast]

/-- Settles O25: the calls as operations, and then the counted cycle. -/
theorem fastbootStepResult : Obligations.FastbootStepResult := by
  intro s r mode phase d n
  have run : exec .fastbootStep s = .next (fastbootStep d s) := accept_ready r (inFastboot_iff.2 ⟨mode, phase⟩)
  exact ⟨afterCalls d s, execAll_calls r, by rw [run, fastbootStep_eq phase rfl]⟩

theorem tickD_eq (d : DriveId) (s : State) :
    tickD d s = ((afterCalls d s).mod d fun x => { x with tickStep := .e }).emit (.cpuStep d) := by
  rw [tickD, setStep, cpuStep_eq_afterCalls, emit_mod]

/-- An operation of the tick runs at its own step. -/
theorem exec_tickInstr_in_place {t : TickStep} {s : State} (r : s.ready) (mode : s.self.mode.emulating = true)
    (phase : s.self.phase = .realtime) (step : s.self.tickStep = t) :
    exec (tickInstr t) s = .next (subStep t s.cur s) := by
  rw [exec_tickInstr]
  exact accept_ready r (atTickStep_iff.2 ⟨mode, phase, step⟩)

/-- Settles O36: the calls as operations, and then the step of the tick. -/
theorem tickDResult : Obligations.TickDResult := by
  refine ⟨decodeEncodeRoundTrip .tickD, fun s r mode phase step => ?_⟩
  refine ⟨afterCalls s.cur s, execAll_calls r, ?_⟩
  exact (exec_tickInstr_in_place r mode phase step).trans (congrArg _ (tickD_eq _ _))

end Sys2Proof.Machine
end

-- ==== The transitions of the mode ====
section
/-! SUPPORT. The transition table of the mode (`43_loop.md` R192): what begins an emulation, ends it or shuts down
writes the mode, and every other operation, sub-step, lock step and move keeps it. -/

namespace Sys2Proof.Machine

/-! ## Beginning an emulation -/

theorem modeOfKind_kindOfImage (img : Image) :
    modeOfKind (kindOfImage img) = if img.info.isD81 then .emulating1581 else .emulating1541 := by
  cases h : img.info.isD81 <;> simp [kindOfImage, modeOfKind, h]

/-- A record that has begun the emulation of an image of its caddy (R166). -/
def HasBegun (y : Drive) : Prop :=
  ∃ img, img ∈ y.caddy.images ∧ y.driveImage = some img ∧
    y.mode = if img.info.isD81 then .emulating1581 else .emulating1541

theorem beginEmulating_mode (d : DriveId) (s : State) :
    ((beginEmulating d s).drive d).mode = (s.drive d).mode ∨ HasBegun ((beginEmulating d s).drive d) := by
  obtain ⟨_, same⟩ | ⟨img, current, record⟩ := beginEmulating_cases d s
  · exact .inl (by rw [same])
  · rw [record]
    exact .inr ⟨img, List.mem_of_getElem? current, rfl, modeOfKind_kindOfImage img⟩

theorem imageSelected_mode (d : DriveId) (s : State) :
    ((imageSelected d s).drive d).mode = (s.drive d).mode ∨ HasBegun ((imageSelected d s).drive d) := by
  obtain ⟨l, e, record⟩ | ⟨u, l, y, e, begins, record⟩ := imageSelected_cases d s
  · exact .inl (by rw [record])
  · have inserted : (u.drive d).mode = (s.drive d).mode := by rw [record]
    rw [begins, ← inserted]
    exact beginEmulating_mode d u

/-! ## What keeps the mode -/

theorem stateChange_mode (d : DriveId) (s : State) : ((stateChange d s).drive d).mode = (s.drive d).mode := by
  unfold stateChange
  split
  · rfl
  · rw [drive_mod_self]
    rfl

theorem caddyInsert_mode (file : FileInfo) (ro : Bool) (d : DriveId) (s : State) :
    ((caddyInsert file ro d s).2.drive d).mode = (s.drive d).mode := by
  obtain ⟨img, e, _, _, _, record⟩ | ⟨e, _, record⟩ := caddyInsert_cases file ro d s <;> rw [record]

theorem setCaddy_mode (d : DriveId) (y : Caddy) (s : State) : ((setCaddy d y s).drive d).mode = (s.drive d).mode := by
  rw [setCaddy_drive]

theorem setResult_mode (d : DriveId) (r : OpResult) (s : State) :
    ((setResult d r s).drive d).mode = (s.drive d).mode := by
  rw [setResult_drive]

theorem fastbootStep_mode (d : DriveId) (s : State) : ((fastbootStep d s).drive d).mode = (s.drive d).mode := by
  refine Eq.trans ?_ (cpuStep_control s.cfg d s).mode
  rw [fastbootStep, drive_mod_self]
  dsimp only
  split <;> rfl

theorem subStep_mode (t : TickStep) (d : DriveId) (s : State) : ((subStep t d s).drive d).mode = (s.drive d).mode := by
  by_cases exits : t = .i
  · subst exits
    obtain ⟨_, _, record⟩ | ⟨_, _, _, _, record⟩ := tickI_cases d s <;> rw [subStep, record]
  · exact (subStep_samePlace exits).mode

theorem runTick_mode (d : DriveId) (n : Nat) (ts : List TickStep) (s : State) :
    ((runTick d n ts s).drive d).mode = (s.drive d).mode := by
  induction n generalizing ts s with
  | zero => rfl
  | succ n ih =>
    cases ts with
    | nil => rfl
    | cons t ts =>
      dsimp only [runTick]
      split
      · exact subStep_mode t d s
      · exact (ih _ _).trans (subStep_mode t d s)

/-- Of the lock steps only the session's end writes the mode (R188). -/
theorem lockStep_mode {t : LockStep} (h : t ≠ .leaveSession) (d : DriveId) (s : State) :
    ((lockStep d t s).drive d).mode = (s.drive d).mode := by
  cases t with
  | acquire | release => simp [lockStep]
  | countUp | countDown => simp [lockStep, setInLoop]
  | enterSession =>
    obtain ⟨_, _, _, _, record⟩ := enterSession_drive d s
    rw [lockStep, record]
  | leaveSession => exact absurd rfl h

/-- Steps that end before the session's end keep the mode, also where that is left for later. -/
theorem runSteps_mode (d : DriveId) (n : Nat) (ts : List LockStep) (s : State) (h : .leaveSession ∉ ts.take n) :
    ((runSteps d n ts s).drive d).mode = (s.drive d).mode := by
  have stops (us : List LockStep) (u : State) : ((setTodo d us u).drive d).mode = (u.drive d).mode := by
    rw [setTodo_drive]
  induction n generalizing ts s with
  | zero => exact stops ts s
  | succ n ih =>
    cases ts with
    | nil => exact stops [] s
    | cons t ts =>
      rw [List.take_succ_cons, List.mem_cons, not_or] at h
      obtain ⟨first, later⟩ := h
      unfold runSteps
      split
      · exact (ih ts _ later).trans (lockStep_mode (Ne.symm first) d s)
      · exact stops (t :: ts) s

theorem startSteps_mode {ts : List LockStep} (h : .leaveSession ∉ ts) (d : DriveId) (s : State) :
    ((startSteps ts d s).drive d).mode = (s.drive d).mode :=
  runSteps_mode d _ ts s fun taken => h (List.mem_of_mem_take taken)

/-- However many of its steps an operation takes now, the mode is kept or the session has ended (R188). -/
theorem startSteps_mode_cases (ts : List LockStep) (d : DriveId) (s : State) :
    ((startSteps ts d s).drive d).mode = (s.drive d).mode ∨ ((startSteps ts d s).drive d).mode = .iecCommands := by
  refine runSteps_ind (P := fun u => (u.drive d).mode = (s.drive d).mode ∨ (u.drive d).mode = .iecCommands) d ?_ ?_ _ ts
    s (.inl rfl)
  · intro us u h
    rwa [setTodo_drive]
  · intro t u h
    by_cases ends : t = .leaveSession
    · subst ends
      exact .inr (by rw [lockStep, leaveSession_drive])
    · rwa [lockStep_mode ends]

/-! ## Operations -/

theorem accept_mode {s t : State} {pre : Drive → Bool} {op : DriveId → State → State}
    (body : ∀ d s, ((op d s).drive d).mode = (s.drive d).mode) (h : accept s pre op = .next t) :
    (t.drive s.cur).mode = s.self.mode := by
  obtain ⟨_, _, rfl⟩ := accept_next.1 h
  exact body _ _

theorem exec_tickInstr_mode (n : TickStep) {s t : State} (h : exec (tickInstr n) s = .next t) :
    (t.drive s.cur).mode = s.self.mode := by
  rw [exec_tickInstr] at h
  exact accept_mode (subStep_mode n) h

/-- An image that is selected begins its emulation; the other outcomes of the fast path keep the mode (R190). -/
theorem execFastpathEvent_mode {o : FastPathOutcome} {s t : State} (h : exec (.fastpathEvent o) s = .next t) :
    (t.drive s.cur).mode = s.self.mode ∨ modeRow (.fastpathEvent o) s.self (t.drive s.cur) := by
  obtain ⟨_, place, rfl⟩ := accept_next.1 h
  cases o with
  | imageSelected =>
    refine (imageSelected_mode s.cur s).imp_right fun begun => ?_
    exact .inl ⟨inIecCommands_iff.1 place, .inr rfl, begun⟩
  | stateChange => exact .inl (stateChange_mode _ _)
  | fpReset => exact .inl (busReset_control s.cfg _ _).mode

/-- An operation keeps the mode or is a row of the transition table (R192). -/
theorem exec_mode {i : Instr} {s t : State} (h : exec i s = .next t) :
    (t.drive s.cur).mode = s.self.mode ∨ modeRow i s.self (t.drive s.cur) := by
  cases i with
  | fastpathEvent o => exact execFastpathEvent_mode h
  | beginEmulating =>
    obtain ⟨_, place, rfl⟩ := accept_next.1 h
    refine (beginEmulating_mode s.cur s).imp_right fun begun => ?_
    exact .inl ⟨(idleInIecCommands_iff.1 place).1, .inl rfl, begun⟩
  | shutdown =>
    obtain ⟨_, place, rfl⟩ := accept_next.1 h
    obtain ⟨mode, requested, _⟩ := mayShutDown_iff.1 place
    exact .inr (.inr (.inl ⟨mode, rfl, requested, by simp [shutdown]⟩))
  | emulateExit =>
    obtain ⟨_, place, rfl⟩ := accept_next.1 h
    obtain ⟨mode, _, exits, _⟩ := mayLeave_iff.1 place
    exact (startSteps_mode_cases emulateExitSteps s.cur s).imp_right fun left =>
      .inr (.inr ⟨mode, rfl, exits, left⟩)
  | busReset => exact .inl (accept_mode (fun d s => (busReset_control s.cfg d s).mode) h)
  | readBrowse => exact .inl (accept_mode (fun d s => (readBrowse_onlySenses d s).mode) h)
  | readEmu1541 => exact .inl (accept_mode (fun d s => (readEmu1541_onlySenses d s).mode) h)
  | readEmu1581 => exact .inl (accept_mode (fun d s => (readEmu1581_onlySenses d s).mode) h)
  | refresh1541 | refresh1581 => exact .inl (accept_mode (fun d s => (refresh_control s.cfg d s).mode) h)
  | portBOut status => exact .inl (accept_mode (fun d s => (portBOut_control s.cfg status d s).mode) h)
  | setSrqOut b => exact .inl (accept_mode (fun d s => (setSrqOut_control s.cfg b d s).mode) h)
  | pollButtons => exact .inl (accept_mode (fun d s => (pollButtons_control d s).mode) h)
  | emulateEnter => exact .inl (accept_mode (startSteps_mode (ts := emulateEnterSteps) (by decide)) h)
  | ddEnter => exact .inl (accept_mode (startSteps_mode (ts := ddEnterSteps) (by decide)) h)
  | ddExit => exact .inl (accept_mode (startSteps_mode (ts := ddExitSteps) (by decide)) h)
  | fastbootStep => exact .inl (accept_mode fastbootStep_mode h)
  | tick => exact .inl (accept_mode (fun d s => runTick_mode d _ _ s) h)
  | caddyInsert ro =>
    exact .inl (accept_mode (fun d s => (setResult_mode _ _ _).trans (caddyInsert_mode _ ro d s)) h)
  | selectFirst => exact .inl (accept_mode (fun _ _ => (setResult_mode _ _ _).trans (setCaddy_mode _ _ _)) h)
  | selectImage n => exact .inl (accept_mode (fun _ _ => (setResult_mode _ _ _).trans (setCaddy_mode _ _ _)) h)
  | nextDisk | prevDisk => exact .inl (accept_mode (fun _ _ => setCaddy_mode _ _ _) h)
  | getCount => exact .inl (accept_mode (fun _ _ => setResult_mode _ _ _) h)
  | tickA => exact .inl (exec_tickInstr_mode .a h)
  | tickB => exact .inl (exec_tickInstr_mode .b h)
  | tickC => exact .inl (exec_tickInstr_mode .c h)
  | tickD => exact .inl (exec_tickInstr_mode .d h)
  | tickE => exact .inl (exec_tickInstr_mode .e h)
  | tickF => exact .inl (exec_tickInstr_mode .f h)
  | tickG => exact .inl (exec_tickInstr_mode .g h)
  | tickH => exact .inl (exec_tickInstr_mode .h h)
  | tickI => exact .inl (exec_tickInstr_mode .i h)
  | tickJ => exact .inl (exec_tickInstr_mode .j h)
  | tickJX => exact .inl (exec_tickInstr_mode .jx h)
  | tickK => exact .inl (exec_tickInstr_mode .k h)

/-! ## Moves -/

/-- The loop's own last step of `EMULATE_EXIT` (R188), from the record `x`. -/
structure LeavesLoop (x y : Drive) : Prop where
  last : x.todo = [.leaveSession]
  mode : x.mode.emulating = true
  exit : x.session.exitReason ≠ .unknown
  left : y.mode = .iecCommands

/-- A list that begins with the session's end is at its end (R188). -/
theorem loopStep_start_notLeave {x : Drive} {ts : List LockStep} (h : loopStep x = .start ts) :
    .leaveSession ∉ ts.take 1 := by
  obtain ⟨opens, fits⟩ := loopStep_start h
  cases ts with
  | nil => simp
  | cons t ts =>
    intro first
    obtain rfl : LockStep.leaveSession = t := by simpa using first
    obtain rfl : ts = [] := (legalTodo_cons fits.legal).2
    simp at opens

/-- The loop's own move keeps the mode, but for its last step of `EMULATE_EXIT` (R165, R192). -/
theorem advance_mode {d : DriveId} {s t : State} (inv : LoopInv s) (h : advance d s = .next t) :
    (t.drive d).mode = (s.drive d).mode ∨ LeavesLoop (s.drive d) (t.drive d) := by
  obtain ⟨u, us, todo, rfl⟩ | ⟨_, ⟨i, next, h⟩ | ⟨ts, next, rfl⟩ | rfl⟩ := advance_cases h
  · by_cases last : u = .leaveSession
    · subst last
      have fits := inv.arbiter.todo d
      obtain rfl : us = [] := fits.after todo
      obtain ⟨mode, _, exit⟩ := fits.leave (by simp [todo])
      refine .inr ⟨todo, mode, exit, ?_⟩
      rw [runSteps_one rfl, setTodo_drive, lockStep, leaveSession_drive]
    · exact .inl (runSteps_mode d 1 (u :: us) s (by simpa [eq_comm] using last))
  · left
    obtain rfl | ⟨_, rfl⟩ := loopStep_op next
    · simpa using accept_mode fastbootStep_mode h
    · simpa using exec_tickInstr_mode _ h
  · exact .inl (runSteps_mode d 1 ts s (loopStep_start_notLeave next))
  · exact .inl rfl

theorem request_mode {d : DriveId} {r : Request} {s t : State} (h : request d r s = .next t) :
    (t.drive d).mode = (s.drive d).mode := by
  unfold request at h
  split at h
  · cases h
    rw [drive_mod_self]
    rfl
  · cases h

/-- An issued word that changes the mode is a row of the transition table (R192). -/
theorem issueWord_mode {d : DriveId} {w : CommandWord} {side : SideData} {n : Nat} {s t : State}
    (h : issueWord d w side n s = .next t) :
    (t.drive d).mode = (s.drive d).mode ∨ ∃ i, decode w = .ok i ∧ modeRow i (s.drive d) (t.drive d) := by
  unfold issueWord at h
  split at h <;> rename_i i word
  · have change := exec_mode h
    simp only [focus_cur, State.self, drive_focus] at change
    exact change.imp_right fun row => ⟨i, word, row⟩
  · cases h

/-- Settles O32: operation by operation, and for a step by the move it takes, which is one of the drive's own. -/
theorem modeTransitionTable : Obligations.ModeTransitionTable := by
  refine ⟨fun i s t h changed => (exec_mode h).resolve_left changed, fun s t d inv h changed => ?_⟩
  cases agenda : s.agenda with
  | nil =>
    rw [step, runAgenda, agenda] at h
    cases h
    exact absurd rfl changed
  | cons m rest =>
    rw [step_eq_runMove agenda] at h
    obtain rfl | rfl := eq_or_eq_other m.drive d
    · cases m with
      | issue d w side n =>
        have change := issueWord_mode h
        rw [drive_agenda] at change
        obtain ⟨i, word, row⟩ := change.resolve_left changed
        exact .inl ⟨w, side, n, rest, i, rfl, word, row⟩
      | advance d =>
        have change := advance_mode (loopInv_agenda inv rest) h
        rw [drive_agenda] at change
        obtain ⟨last, mode, exit, left⟩ := change.resolve_left changed
        exact .inr ⟨⟨rest, rfl⟩, last, mode, exit, left⟩
      | request d r =>
        have kept := request_mode h
        rw [drive_agenda] at kept
        exact absurd kept changed
    · have untouched := (runMove_otherUntouched h).other
      rw [drive_agenda] at untouched
      exact absurd (congrArg Drive.mode untouched) changed

end Sys2Proof.Machine
end

-- ==== Beginning and ending a session ====
section
/-! SUPPORT. The sequencer outside the tick (`43_loop.md` sections 1, 2 and 5): what begins an emulation, enters its
session, leaves it and shuts down makes of the record and the trace. -/

namespace Sys2Proof.Machine

/-! ## `BEGIN_EMULATING` -/

/-- The quirk turns the option off, and touches no other register (R186). -/
theorem applyQuirk_eq (c : Config) (img : Image) (z : Session) :
    applyQuirk c img z =
      { z with refreshAfter := z.refreshAfter && !decide (img.info.hash ∈ c.quirkHashes) } := by
  by_cases quirky : img.info.hash ∈ c.quirkHashes <;> simp [applyQuirk, quirky]

/-- The record of a drive that begins to emulate `img` (R166, R186). -/
def beganWith (c : Config) (img : Image) (x : Drive) : Drive :=
  { x with
    driveImage := some img
    chipKind := if img.info.isD81 then .cia1581 else .via1541
    mode := if img.info.isD81 then .emulating1581 else .emulating1541
    session := { x.session with
      refreshAfter := c.refreshOutsAfterCPUStep && !decide (img.info.hash ∈ c.quirkHashes) } }

section
variable {d : DriveId} {s : State}

theorem beginEmulating_of_empty (h : (s.drive d).caddy.images = []) : beginEmulating d s = s := by
  simp [beginEmulating, h]

theorem beginEmulating_of_current {img : Image}
    (current : (s.drive d).caddy.images[(s.drive d).caddy.current]? = some img) :
    beginEmulating d s =
      (s.mod d (beganWith s.cfg img)).emit
        (.modeChange d (if img.info.isD81 then .emulating1581 else .emulating1541)) := by
  unfold beginEmulating
  rw [current]
  simp only [applyQuirk_eq, modeOfKind_kindOfImage]
  rfl

end

/-- Settles O23: the two outcomes of the body, at an idle control point of `IEC_COMMANDS`. -/
theorem beginEmulatingResult : Obligations.BeginEmulatingResult := by
  intro s r mode phase d
  have run : exec .beginEmulating s = .next (beginEmulating d s) :=
    accept_ready r (idleInIecCommands_iff.2 ⟨mode, phase⟩)
  rw [run]
  exact ⟨fun empty => congrArg _ (beginEmulating_of_empty empty),
    fun img current => congrArg _ (beginEmulating_of_current current)⟩

/-! ## Around a locked section -/

/-- Drive `d` counted in or out, with the counter at `n` and the lock free again (R211, R212). -/
def recount (d : DriveId) (b : Bool) (n : Int) (s : State) : State :=
  setInLoop d b { s with lock := .free, dualDrive := n }

section
variable (d : DriveId) (b : Bool) (n : Int) (s : State)

@[simp] theorem recount_cfg : (recount d b n s).cfg = s.cfg := mod_cfg _ _ _

@[simp] theorem recount_trace : (recount d b n s).trace = s.trace := mod_trace _ _ _

@[simp] theorem recount_drive :
    (recount d b n s).drive d = { s.drive d with session := { (s.drive d).session with inLoop := b } } := by
  simp [recount, setInLoop, Drive.modSession]

/-- Counting asks no collaborator. -/
@[simp] theorem recount_headAnswer : (recount d b n s).headAnswer d = s.headAnswer d := by
  simp [State.headAnswer, recount, setInLoop]

theorem lockSteps_emulateEnter :
    lockSteps d emulateEnterSteps s = enterSession d (recount d true (s.dualDrive + 1) s) := by
  cases d <;> rfl

theorem lockSteps_emulateExit :
    lockSteps d emulateExitSteps s = leaveSession d (recount d false (s.dualDrive - 1) s) := by
  cases d <;> rfl

end

/-- What a whole `EMULATE_ENTER` or `EMULATE_EXIT` leaves outside its drive and the trace (R211, R212). -/
structure Recounted (d : DriveId) (n : Int) (s t : State) : Prop where
  count    : t.dualDrive = n
  lock     : t.lock = .free
  other    : t.drive d.other = s.drive d.other
  cfg      : t.cfg = s.cfg
  cur      : t.cur = s.cur
  side     : t.side = s.side
  agenda   : t.agenda = s.agenda
  unbroken : t.unbroken = s.unbroken

theorem recount_recounted (d : DriveId) (b : Bool) (n : Int) (s : State) : Recounted d n s (recount d b n s) := by
  constructor <;> simp [recount, setInLoop]

theorem Recounted.trans {d : DriveId} {n : Int} {s t u : State} (h : Recounted d n s t) (o : SameOutside d t u) :
    Recounted d n s u :=
  ⟨o.dualDrive.trans h.count, o.lock.trans h.lock, o.other.trans h.other, o.cfg.trans h.cfg, o.cur.trans h.cur,
    o.side.trans h.side, o.agenda.trans h.agenda, o.unbroken.trans h.unbroken⟩

@[simp] theorem setTodo_trace (d : DriveId) (ts : List LockStep) (s : State) : (setTodo d ts s).trace = s.trace :=
  mod_trace _ _ _

/-- Four steps that nothing blocks are all taken by an operation that may take three after its first (R11). -/
theorem accept_startSteps_whole {s : State} {pre : Drive → Bool} {ts : List LockStep} (r : s.ready)
    (place : pre s.self = true) (free : Unblocked s.cur ts s) (whole : 3 ≤ s.unbroken) (short : ts.length = 4) :
    accept s pre (startSteps ts) = .next (setTodo s.cur [] (lockSteps s.cur ts s)) := by
  have run := accept_startSteps_now r place free rfl
  rwa [List.take_of_length_le (by omega), List.drop_eq_nil_of_le (by omega)] at run

/-! ## `EMULATE_ENTER` -/

theorem refresh_trace (d : DriveId) (s : State) :
    (refresh d s).trace = s.trace ++
      if splitUnsupported s.cfg then if (s.drive d).notImplReported then [] else [.log d .notImplemented]
      else [.gpioDrive d (outVector (s.drive d))] := by
  unfold refresh
  split
  · exact notImpl_trace d s
  · exact gpioDrive_trace d _ s

@[simp] theorem releaseLines_trace (d : DriveId) (s : State) : (releaseLines d s).trace = s.trace := mod_trace _ _ _

/-- A reset presents the released vector at once: under `CIA1581`, where the configuration is supported (R137). -/
def resetRefreshes (c : Config) (x : Drive) : Bool := decide (x.chipKind = .cia1581) && !splitUnsupported c

/-- A reset that should present the vector finds the configuration unsupported (R137, R116). -/
def resetReports (c : Config) (x : Drive) : Bool := decide (x.chipKind = .cia1581) && splitUnsupported c

theorem resetRecord_eq (c : Config) (x : Drive) :
    resetRecord c x =
      { x with
        lines := Lines.released
        out := if resetRefreshes c x then ⟨false, false, false, x.outputLED, x.outputSound⟩ else x.out
        notImplReported := x.notImplReported || resetReports c x } := by
  by_cases kind : x.chipKind = .cia1581
  · cases supported : splitUnsupported c <;>
      simp [resetRecord, resetRefreshes, resetReports, kind, supported, outVector, Lines.released]
  · simp [resetRecord, resetRefreshes, resetReports, kind]

/-- `BUS_RESET` under `CIA1581` drives the released vector or reports, and is silent under `VIA1541` (R137, R116). -/
theorem busReset_trace (d : DriveId) (s : State) :
    (busReset d s).trace =
      s.trace ++
          (if resetRefreshes s.cfg (s.drive d) then
            [.gpioDrive d ⟨false, false, false, (s.drive d).outputLED, (s.drive d).outputSound⟩] else []) ++
        (if resetReports s.cfg (s.drive d) && !(s.drive d).notImplReported then [.log d .notImplemented] else []) := by
  rw [busReset_eq]
  by_cases kind : (s.drive d).chipKind = .cia1581
  · cases supported : splitUnsupported s.cfg with
    | false => simp [refresh_trace, resetRefreshes, resetReports, kind, supported, outVector, Lines.released]
    | true =>
      cases reported : (s.drive d).notImplReported <;>
        simp [refresh_trace, resetRefreshes, resetReports, kind, supported, reported]
  · simp [resetRefreshes, resetReports, kind]

/-- A refresh asks no collaborator (R134). -/
theorem refresh_draws (d : DriveId) (s : State) : (refresh d s).draws = s.draws := by
  unfold refresh notImpl gpioDrive
  split
  · split <;> simp
  · simp

theorem busReset_draws (d : DriveId) (s : State) : (busReset d s).draws = s.draws := by
  rw [busReset_eq]
  split
  · rw [refresh_draws]
    exact mod_draws _ _ _
  · exact mod_draws _ _ _

/-- The reset uses up no answer, so the head value read after it is the one answered before (R137, R167). -/
theorem busReset_headAnswer (d : DriveId) (s : State) : (busReset d s).headAnswer d = s.headAnswer d := by
  obtain ⟨out, rep, record⟩ := busReset_drive d s
  simp only [State.headAnswer, record, busReset_draws]

/-- What the last step of `EMULATE_ENTER` makes of the record: the reset record with fresh session registers (R167). -/
theorem enterSession_record (d : DriveId) (s : State) :
    (enterSession d s).drive d =
      { resetRecord s.cfg (s.drive d) with
        session := freshSession (s.headAnswer d) (s.drive d).session
        phase := firstPhase s.cfg
        tickStep := .a
        env := ((enterSession d s).drive d).env } := by
  have session : (resetRecord s.cfg (s.drive d)).session = (s.drive d).session := by
    obtain ⟨out, rep, record⟩ := busReset_drive d s
    rw [← busReset_drive_eq, record]
  simp [enterSession, drive_spend, busReset_drive_eq, busReset_headAnswer, Drive.modSession, session]

/-- The trace of entering a session is that of its reset: the head value that is read is no event (R167). -/
theorem enterSession_trace (d : DriveId) (s : State) : (enterSession d s).trace = (busReset d s).trace := by
  simp [enterSession]

/-- Settles O24: the counted drive enters the session, with the record and the trace of its reset by chip kind and
configuration. -/
theorem emulateEnterResult : Obligations.EmulateEnterResult := by
  intro s r whole free mode phase out d x v unsupported refreshed reported
  obtain ⟨_, _, unblocked, _⟩ := unblocked_section (d := d) free
  have run := accept_startSteps_whole r (mayEnter_iff.2 ⟨mode, phase, out⟩) unblocked whole rfl
  rw [lockSteps_emulateEnter] at run
  obtain ⟨count, lock, other, cfg, cur, side, agenda, unbroken⟩ :=
    ((recount_recounted d true (s.dualDrive + 1) s).trans (enterSession_outside d _)).trans (setTodo_outside d [] _)
  refine ⟨_, run, count, lock, other, cfg, cur, side, agenda, unbroken, ?_, ?_⟩
  · rw [setTodo_trace, enterSession_trace, busReset_trace, recount_trace, recount_drive, recount_cfg]
    rfl
  · rw [setTodo_drive, enterSession_record, recount_drive, recount_cfg, recount_headAnswer, resetRecord_eq,
      ← show x.todo = [] from r.2.2]
    rfl

/-! ## `EMULATE_EXIT` and `SHUTDOWN` -/

/-- Leaving signals the mode, and the return to root after a reset if configured (R188). -/
theorem leaveSession_trace (d : DriveId) (s : State) :
    (leaveSession d s).trace =
      s.trace ++ [.modeChange d .iecCommands] ++
        (if (s.drive d).session.exitReason = .reset ∧ s.cfg.resetToRoot = true then [.returnToRoot d] else []) := by
  unfold leaveSession setResult
  dsimp only
  split <;> simp

/-- Settles O26: the drive counted out leaves the session. -/
theorem emulateExitResult : Obligations.EmulateExitResult := by
  intro s r whole free mode phase exits inside d x
  obtain ⟨_, _, _, unblocked⟩ := unblocked_section (d := d) free
  have run := accept_startSteps_whole r (mayLeave_iff.2 ⟨mode, phase, exits, inside⟩) unblocked whole rfl
  rw [lockSteps_emulateExit] at run
  obtain ⟨count, lock, other, cfg, cur, side, agenda, unbroken⟩ :=
    ((recount_recounted d false (s.dualDrive - 1) s).trans (leaveSession_outside d _)).trans (setTodo_outside d [] _)
  refine ⟨_, run, count, lock, other, cfg, cur, side, agenda, unbroken, ?_, ?_⟩
  · rw [setTodo_trace, leaveSession_trace, recount_trace, recount_drive, recount_cfg]
  · rw [setTodo_drive, leaveSession_drive, recount_drive, ← show x.todo = [] from r.2.2]

/-- Settles O30: a pending request of a drive that is not counted in its loop is in place. -/
theorem shutdownResult : Obligations.ShutdownResult :=
  fun _ r mode requested out => accept_ready r (mayShutDown_iff.2 ⟨mode, requested, out⟩)

/-! ## `FASTPATH_EVENT` -/

/-- The pending mount request taken (R190). -/
def clearMount (d : DriveId) (s : State) : State :=
  s.mod d fun x => x.modLatches fun l => { l with reqMount := none }

@[simp] theorem clearMount_cfg (d : DriveId) (s : State) : (clearMount d s).cfg = s.cfg := mod_cfg _ _ _

@[simp] theorem clearMount_trace (d : DriveId) (s : State) : (clearMount d s).trace = s.trace := mod_trace _ _ _

@[simp] theorem clearMount_drive (d : DriveId) (s : State) :
    (clearMount d s).drive d = { s.drive d with latches := { (s.drive d).latches with reqMount := none } } :=
  drive_mod_self _ _ _

section
variable {file : FileInfo} {ro : Bool} {d : DriveId} {s : State}

@[simp] theorem clearMount_openAnswer : (clearMount d s).openAnswer d file ro = s.openAnswer d file ro := by
  simp only [State.openAnswer, clearMount_drive]
  simp [clearMount]

/-- An insert into a full caddy, or of an image that cannot be opened, fails, and only uses up an answer (R226). -/
theorem caddyInsert_of_failure
    (h : (s.drive d).caddy.images.length = s.cfg.maxImages ∨ s.openAnswer d file ro = none) :
    ∃ u e, caddyInsert file ro d s = (false, u) ∧ u.trace = s.trace ∧ u.drive d = { s.drive d with env := e } := by
  unfold caddyInsert
  split <;> rename_i full
  · exact ⟨s, (s.drive d).env, rfl, rfl, rfl⟩
  · rw [h.resolve_left full]
    exact ⟨_, _, rfl, spend_trace _ _ _, drive_spend _ _ _⟩

/-- An insert of an image that opens appends it (R226). -/
theorem caddyInsert_of_open {img : Image} (room : (s.drive d).caddy.images.length ≠ s.cfg.maxImages)
    (opens : s.openAnswer d file ro = some img) :
    ∃ u e, caddyInsert file ro d s = (true, u) ∧ u.trace = s.trace ∧ u.cfg = s.cfg ∧
      u.drive d =
        { s.drive d with
          caddy := { (s.drive d).caddy with images := (s.drive d).caddy.images ++ [img] }, env := e } := by
  unfold caddyInsert
  rw [if_neg room, opens]
  exact ⟨_, envAfter s d .opened, rfl, by simp, by simp, by simp [drive_spend]⟩

theorem imageSelected_of_failed {u : State}
    (failed : caddyInsert s.side.file s.side.readOnly d (clearMount d s) = (false, u)) :
    imageSelected d s = u.emit (.log d .mountFailed) := by
  unfold imageSelected
  unfold clearMount at failed
  simp [failed]

/-- To select the first image where it is current changes nothing (R227). -/
theorem selectFirst_of_current {y : Caddy} (current : y.current = 0) : y.selectFirst.2 = y := by
  unfold Caddy.selectFirst
  split
  · rfl
  · rw [← current]

/-- An inserted image begins the emulation of the current one; a single image is current already (R190, R227). -/
theorem imageSelected_of_inserted {u : State}
    (inserted : caddyInsert s.side.file s.side.readOnly d (clearMount d s) = (true, u))
    (single : (u.drive d).caddy.images.length = 1 → (u.drive d).caddy.current = 0) :
    imageSelected d s = beginEmulating d u := by
  have run : imageSelected d s = beginEmulating d
      (if (u.drive d).caddy.images.length = 1 then setCaddy d (u.drive d).caddy.selectFirst.2 u else u) := by
    unfold imageSelected
    unfold clearMount at inserted
    simp [inserted]
  rw [run]
  split <;> rename_i one
  · rw [selectFirst_of_current (single one), setCaddy, mod_eq_self _ _ _ rfl]
  · rfl

end

/-- Settles O27: the insert fails, and the failure is reported. -/
theorem imageSelectedMountFails : Obligations.ImageSelectedMountFails := by
  intro s r mode fails d
  have run : exec (.fastpathEvent .imageSelected) s = .next (imageSelected d s) :=
    accept_ready r (inIecCommands_iff.2 mode)
  obtain ⟨u, e, failed, trace, record⟩ := caddyInsert_of_failure (d := d) (s := clearMount d s)
    (file := s.side.file) (ro := s.side.readOnly) (by simpa using fails)
  refine ⟨_, run, imageSelected_outside d s, ?_⟩
  rw [imageSelected_of_failed failed]
  refine ⟨?_, ?_⟩
  · rw [trace_emit, trace, clearMount_trace]
  · rw [drive_emit, record, clearMount_drive]

/-- Where the caddy is in order, its current index has an image once one is appended (R225, R226). -/
theorem caddyOk_current_append {c : Config} {y : Caddy} (ok : CaddyOk c y) (img : Image) :
    y.current < (y.images ++ [img]).length := by
  rw [List.length_append, List.length_singleton]
  obtain ⟨_, ⟨_, current⟩ | inside⟩ := ok <;> omega

/-- Settles O28: the insert appends the image, and the current image of the caddy begins its emulation. -/
theorem imageSelectedBegins : Obligations.ImageSelectedBegins := by
  intro s img r mode ok room opens d x images
  have run : exec (.fastpathEvent .imageSelected) s = .next (imageSelected d s) :=
    accept_ready r (inIecCommands_iff.2 mode)
  obtain ⟨u, e, inserted, trace, cfg, record⟩ := caddyInsert_of_open (d := d) (s := clearMount d s)
    (file := s.side.file) (ro := s.side.readOnly) (img := img) (by simpa using room) (by simpa using opens)
  rw [clearMount_drive] at record
  have caddy : (u.drive d).caddy = ⟨images, x.caddy.current⟩ := by rw [record]
  have inside : x.caddy.current < images.length := caddyOk_current_append ok img
  have begins : imageSelected d s = beginEmulating d u :=
    imageSelected_of_inserted inserted (by rw [caddy]; dsimp only; omega)
  have current : images[x.caddy.current]? = some images[x.caddy.current] := List.getElem?_eq_getElem inside
  have begun := beginEmulating_of_current (d := d) (s := u) (by rw [caddy]; exact current)
  refine ⟨_, images[x.caddy.current], run, imageSelected_outside d s, current, ?_⟩
  rw [begins, begun]
  refine ⟨?_, ?_⟩
  · rw [trace_emit, mod_trace, trace, clearMount_trace]
  · rw [drive_emit, drive_mod_self, record, cfg, clearMount_cfg]
    rfl

/-- Settles O29: the outcomes are bodies of their own, and the reset is the body of `BUS_RESET`. -/
theorem fastpathStateChangeAndReset : Obligations.FastpathStateChangeAndReset := by
  intro s r mode
  have run (o : FastPathOutcome) : exec (.fastpathEvent o) s = .next (fastpathEvent o s.cur s) :=
    accept_ready r (inIecCommands_iff.2 mode)
  refine ⟨fun unchanged => ?_, fun n pending => ?_, _, run .fpReset, accept_ready (pre := anywhere) r rfl⟩
  · rw [run, fastpathEvent, stateChange, unchanged]
  · rw [run, fastpathEvent, stateChange, pending]
    rfl

/-- Settles O60: an operation goes on or is refused. -/
theorem noOperationFaults : Obligations.NoOperationFaults :=
  exec_ne_fault

end Sys2Proof.Machine
end

-- ==== The sub-steps of a tick, one by one ====
section
/-! SUPPORT. What each sub-step of a tick makes of the record and the trace (`43_loop.md` section 3). Steps b, e and jx
are `READ_EMU` and `REFRESH` words of the session's drive (`30_encoding.md` R96); the others write their own
registers. -/

namespace Sys2Proof.Machine

/-! ## Step a -/

theorem tickA_drive (d : DriveId) (s : State) :
    (tickA d s).drive d =
      { s.drive d with
        session := { (s.drive d).session with before := s.nowAnswer d }
        tickStep := .b
        env := envAfter s d .now } := by
  simp [tickA, drive_spend, Drive.modSession]

theorem tickA_trace (d : DriveId) (s : State) : (tickA d s).trace = s.trace := by
  simp [tickA]

/-- Settles O33: the answer of `Now()` is stored, and the tick goes on. -/
theorem tickAResult : Obligations.TickAResult := by
  refine ⟨decodeEncodeRoundTrip .tickA, fun s r mode phase step => ?_⟩
  exact ⟨_, exec_tickInstr_in_place r mode phase step, tickA_outside _ _, tickA_trace _ _, by
    rw [subStep, tickA_drive]⟩

/-! ## Steps b, e and jx: the words of the session's drive -/

section
variable {s : State}

/-- During a session the drive emulates one of the two models, with its own chip kind (R171). -/
theorem SessionOk.model {x : Drive} (ok : SessionOk x) (phase : x.phase = .realtime) :
    x.mode = .emulating1541 ∧ x.chipKind = .via1541 ∨ x.mode = .emulating1581 ∧ x.chipKind = .cia1581 := by
  have emulating := ok.point (by simp [phase])
  cases mode : x.mode with
  | emulating1541 => exact .inl ⟨rfl, ok.chip1541 mode⟩
  | emulating1581 => exact .inr ⟨rfl, ok.chip1581 mode⟩
  | iecCommands | emulationShutdown => rw [mode] at emulating; cases emulating

/-- The read of a session is the word of its mode (R96, R171). -/
theorem exec_readEmuInstr (r : s.ready) (ok : SessionOk s.self) (phase : s.self.phase = .realtime) :
    exec (readEmuInstr s.self.mode) s = .next (readEmu s.cur s) := by
  obtain ⟨mode, kind⟩ | ⟨mode, kind⟩ := ok.model phase <;> rw [mode, readEmuInstr, readEmu, mode]
  · exact accept_ready r (mayReadEmu_iff.2 ⟨mode, phase, kind⟩)
  · exact accept_ready r (mayReadEmu_iff.2 ⟨mode, phase, kind⟩)

/-- The refresh of a session is the word of its mode (R96, R171). -/
theorem exec_refreshInstr (r : s.ready) (ok : SessionOk s.self) (phase : s.self.phase = .realtime) :
    exec (refreshInstr s.self.mode) s = .next (refresh s.cur s) := by
  obtain ⟨mode, kind⟩ | ⟨mode, kind⟩ := ok.model phase <;> rw [mode, refreshInstr]
  · exact accept_ready r (hasChip_iff.2 kind)
  · exact accept_ready r (hasChip_iff.2 kind)

/-- After the refresh the read of the session is in place (R184). -/
theorem exec_readEmuInstr_after_refresh (r : s.ready) (ok : SessionOk s.self) (phase : s.self.phase = .realtime) :
    exec (readEmuInstr s.self.mode) (refresh s.cur s) = .next (readEmu s.cur (refresh s.cur s)) := by
  have control := refresh_control s.cfg s.cur s
  have outside := refresh_outside s.cur s
  have self : (refresh s.cur s).self = (refresh s.cur s).drive s.cur := by rw [State.self, outside.cur]
  have run := exec_readEmuInstr (control.ready outside r) (self ▸ control.keepsLoop.session ok)
    (self ▸ control.phase.trans phase)
  rwa [self, control.mode, outside.cur] at run

/-- A sub-step of a session that keeps the invariant of its sequencer runs at its step (R171). -/
theorem exec_tickInstr_of_sessionOk {t : TickStep} (r : s.ready) (ok : SessionOk s.self)
    (phase : s.self.phase = .realtime) (step : s.self.tickStep = t) :
    exec (tickInstr t) s = .next (subStep t s.cur s) :=
  exec_tickInstr_in_place r (ok.point (by simp [phase])) phase step

end

/-- Settles O34: the read is that of the session, and is left out where it is deferred. -/
theorem tickBResult : Obligations.TickBResult := by
  refine ⟨decodeEncodeRoundTrip .tickB, fun s r ok phase step => ?_⟩
  have run : exec .tickB s = .next (tickB s.cur s) := exec_tickInstr_of_sessionOk r ok phase step
  refine ⟨fun deferred => ?_, fun now => ⟨_, exec_readEmuInstr r ok phase, ?_⟩⟩
  · rw [run, tickB, if_neg (by simp [deferred])]
    rfl
  · rw [run, tickB, if_pos now]
    rfl

/-- Settles O37: the refresh is that of the session, and is left out where it is deferred. -/
theorem tickEResult : Obligations.TickEResult := by
  intro s r ok phase step d
  have run : exec .tickE s = .next (tickE d s) := exec_tickInstr_of_sessionOk r ok phase step
  refine ⟨fun deferred => ?_, fun now => ⟨_, exec_refreshInstr r ok phase, ?_⟩⟩
  · rw [run, tickE, if_neg (by simp [d, deferred])]
    rfl
  · rw [run, tickE, if_pos now]
    rfl

/-- Settles O43: the refresh keeps the session, so that its read is in place after it. -/
theorem tickJXResult : Obligations.TickJXResult := by
  intro s r ok phase step d
  have run : exec .tickJX s = .next (tickJX d s) := exec_tickInstr_of_sessionOk r ok phase step
  refine ⟨fun now => ?_, fun deferred =>
    ⟨_, _, exec_refreshInstr r ok phase, exec_readEmuInstr_after_refresh r ok phase, ?_⟩⟩
  · rw [run, tickJX, if_pos now]
    rfl
  · rw [run, tickJX, if_neg (by simp [d, deferred])]
    rfl

/-! ## Step c -/

/-- The matcher on one byte: the fifth match starts the countdown unless one runs (R175). -/
theorem snoopByte_eq (c : Config) (b : Byte) (z : Session) :
    snoopByte c b z =
      if b = c.snoopSig[z.snoopIdx] then
        if z.snoopIdx = 4 then
          { z with
            snoopIdx := 0
            countdownActive := true
            exitCountdown := if z.countdownActive then z.exitCountdown else c.exitCountdown }
        else { z with snoopIdx := z.snoopIdx + 1 }
      else { z with snoopIdx := 0 } := by
  unfold snoopByte
  split
  · split
    · cases z.countdownActive <;> rfl
    · rfl
  · rfl

theorem snoopPcs_of_emulating (c : Config) {m : Mode} (h : m.emulating = true) :
    snoopPcs c m = if m = .emulating1541 then c.snoopPcs1541 else c.snoopPcs1581 := by
  cases m with
  | emulating1541 | emulating1581 => rfl
  | iecCommands | emulationShutdown => cases h

/-- Step c matches the byte at an instruction boundary at a snoop address, and keeps the session registers elsewhere
(R175). -/
theorem tickC_drive (d : DriveId) (s : State) :
    (tickC d s).drive d =
      { s.drive d with
        session :=
          if (s.cpuAnswer d).sync = true ∧ (s.cpuAnswer d).pc ∈ snoopPcs s.cfg (s.drive d).mode then
            snoopByte s.cfg (s.cpuAnswer d).a (s.drive d).session
          else (s.drive d).session
        tickStep := .d
        env := envAfter s d .cpu } := by
  unfold tickC
  simp only [Bool.and_eq_true, decide_eq_true_eq, setStep_drive]
  split <;> simp [drive_spend, Drive.modSession]

theorem tickC_trace (d : DriveId) (s : State) : (tickC d s).trace = s.trace := by
  unfold tickC
  dsimp only
  split <;> simp

/-- Settles O35: the record of step c, with the matcher and the addresses of the mode written out. -/
theorem tickCResult : Obligations.TickCResult := by
  intro s r mode phase step d z v pcs z'
  refine ⟨_, exec_tickInstr_in_place r mode phase step, tickC_outside d s, tickC_trace d s, ?_⟩
  rw [subStep, tickC_drive, snoopPcs_of_emulating _ mode, snoopByte_eq]

/-! ## Step f -/

theorem tickF_drive (d : DriveId) (s : State) :
    (tickF d s).drive d =
      { s.drive d with
        outputLED := s.ledAnswer d
        session := { (s.drive d).session with ledPrev := s.ledAnswer d }
        tickStep := .g
        env := envAfter s d .led } := by
  unfold tickF
  simp only [setStep_drive]
  split <;> simp [drive_spend, Drive.modSession]

/-- The ACT LED is set on an edge only (R178). -/
theorem tickF_trace (d : DriveId) (s : State) :
    (tickF d s).trace =
      s.trace ++ if s.ledAnswer d = (s.drive d).session.ledPrev then [] else [.setACTLed d (s.ledAnswer d)] := by
  unfold tickF
  by_cases same : s.ledAnswer d = (s.drive d).session.ledPrev <;> simp [same]

/-- Settles O38: the record and the trace of step f. -/
theorem tickFResult : Obligations.TickFResult := by
  intro s r mode phase step d led
  exact ⟨_, exec_tickInstr_in_place r mode phase step, tickF_outside d s, tickF_trace d s, by
    rw [subStep, tickF_drive]⟩

/-! ## Step g -/

/-- The record once the head value `hv` is stored: a move of the head restarts the square wave's duration, unless the
sound is played with DMA (R179). -/
def headStored (c : Config) (hv : HeadValue) (x : Drive) : Drive :=
  { x with
    session := { x.session with
      headPrev := hv
      soundRemaining :=
        if c.soundViaDMA = false ∧ hv ≠ x.session.headPrev then c.soundDuration else x.session.soundRemaining } }

theorem headStored_of_moved {c : Config} {hv : HeadValue} {x : Drive} (moved : hv ≠ x.session.headPrev) :
    headMoved c hv x = headStored c hv x := by
  cases dma : c.soundViaDMA <;> simp [headMoved, headStored, Drive.modSession, dma, moved]

theorem headStored_of_still {c : Config} {hv : HeadValue} {x : Drive} (still : hv = x.session.headPrev) :
    headStored c hv x = x := by
  simp [headStored, still]

/-- Step g stores the head value and then runs one tick of the square wave (R179). -/
theorem tickG_drive (d : DriveId) (s : State) :
    (tickG d s).drive d =
      { soundWave s.cfg (headStored s.cfg (s.headAnswer d) ((s.spend d .head).drive d)) with tickStep := .h } := by
  unfold tickG
  simp only [setStep_drive, drive_mod_self]
  refine congrArg (fun x => { soundWave s.cfg x with tickStep := .h }) ?_
  split <;> rename_i moved
  · rw [← headStored_of_moved (by rwa [spend_session])]
    split <;> simp
  · rw [headStored_of_still (by rw [spend_session, not_not.1 moved])]

/-- With DMA a move of the head starts the sound (R179). -/
theorem tickG_trace (d : DriveId) (s : State) :
    (tickG d s).trace =
      s.trace ++
        if s.cfg.soundViaDMA = true ∧ s.headAnswer d ≠ (s.drive d).session.headPrev then [.headSoundStart d]
        else [] := by
  unfold tickG
  by_cases moved : s.headAnswer d = (s.drive d).session.headPrev
  · simp [moved]
  · cases s.cfg.soundViaDMA <;> simp [moved]

section
variable {c : Config} {x : Drive}

theorem soundWave_of_dma (dma : c.soundViaDMA = true) : soundWave c x = x := by
  simp [soundWave, dma]

theorem soundWave_of_silent (silent : x.session.soundRemaining = 0) : soundWave c x = x := by
  simp [soundWave, silent]

/-- One tick of the wave: a half period toggles the pin, and the last tick releases it (R179). -/
theorem soundWave_of_sounding {left : Nat} (pin : c.soundViaDMA = false) (remaining : x.session.soundRemaining = left)
    (sounding : left ≠ 0) :
    soundWave c x =
      { x with
        session := { x.session with
          soundRemaining := left - 1
          soundPhase :=
            if x.session.soundPhase + 1 = c.soundHalfPeriod ∨ left = 1 then 0 else x.session.soundPhase + 1 }
        outputSound :=
          if left = 1 then false
          else if x.session.soundPhase + 1 = c.soundHalfPeriod then !x.outputSound else x.outputSound } := by
  have last : left - 1 = 0 ↔ left = 1 := by omega
  simp [soundWave, Drive.modSession, pin, remaining, Nat.pos_of_ne_zero sounding, last]

end

/-- Settles O39: with DMA and in silence the wave rests, and otherwise it runs one tick from the stored duration. -/
theorem tickGResult : Obligations.TickGResult := by
  intro s r mode phase step d z moved left half
  have record := tickG_drive d s
  rw [drive_spend] at record
  have remaining (pin : s.cfg.soundViaDMA = false) :
      (headStored s.cfg (s.headAnswer d) { s.drive d with env := envAfter s d .head }).session.soundRemaining =
        left := by
    simp only [headStored, pin, true_and]
    rfl
  refine ⟨_, exec_tickInstr_in_place r mode phase step, tickG_outside d s, tickG_trace d s, fun dma => ?_,
    fun pin silent => ?_, fun pin sounding => ?_⟩ <;> rw [subStep, record]
  · rw [soundWave_of_dma dma]
    simp [headStored, dma, z, d]
  · have silence := (remaining pin).trans silent
    rw [soundWave_of_silent silence, ← silence]
    rfl
  · rw [soundWave_of_sounding pin (remaining pin) sounding]
    rfl

/-! ## Step h -/

/-- The buttons as step h finds them: polled once per sample, and by an eligible drive only (R151, D31). -/
def buttonsAtH (d : DriveId) (s : State) : List Button :=
  if mayPoll d s (s.drive d) then pollFile s.cfg (s.drive d).rawSample s.cfg.pinButtons (s.drive d).buttons
  else (s.drive d).buttons

/-- After the poll of step h the sample of an eligible drive is polled (R151, D31). -/
theorem pollAtH_eq (d : DriveId) (s : State) :
    (if mayPoll d s (s.drive d) then pollButtons d s else s) =
      s.mod d fun x =>
        { x with buttons := buttonsAtH d s, samplePolled := s.readEligible d || x.samplePolled } := by
  unfold buttonsAtH
  split <;> rename_i polls
  · obtain ⟨eligible, _⟩ := (mayPoll_iff _ _ _).1 polls
    exact mod_congr _ _ _ _ (by simp [eligible])
  · refine (mod_eq_self _ _ _ ?_).symm
    have polled : (s.readEligible d || (s.drive d).samplePolled) = (s.drive d).samplePolled := by
      cases eligible : s.readEligible d <;> simp_all [mayPoll]
    rw [polled]

/-- Latches without a swap request stay as they are when the request is cleared. -/
theorem noSwap_eq {l : Latches} (next : l.reqNext = false) (prev : l.reqPrev = false) (direct : l.reqDirectMask = 0) :
    { l with reqNext := false, reqPrev := false, reqDirectMask := 0 } = l := by
  cases l
  cases next
  cases prev
  cases direct
  rfl

/-- One swap request is staged: next before prev before direct, and the others stay latched (R180, R92). -/
theorem takeSwapRequest_eq (c : Config) (x : Drive) :
    takeSwapRequest c x =
      { x with
        session := { x.session with
          pendSwap :=
            if x.latches.reqNext then .next else if x.latches.reqPrev then .prev
            else if x.latches.reqDirectMask ≠ 0 then .direct (lowestSetBit c.maxImages x.latches.reqDirectMask)
            else x.session.pendSwap }
        latches := { x.latches with
          reqNext := false
          reqPrev := if x.latches.reqNext then x.latches.reqPrev else false
          reqDirectMask := if x.latches.reqNext || x.latches.reqPrev then x.latches.reqDirectMask else 0 } } := by
  unfold takeSwapRequest
  dsimp only
  cases next : x.latches.reqNext with
  | true => simp
  | false =>
    cases prev : x.latches.reqPrev with
    | true => simp
    | false =>
      by_cases direct : x.latches.reqDirectMask = 0
      · simp [direct, noSwap_eq next prev direct]
      · simp [direct, directTarget]

/-- Step h polls, maps the inputs to latches, and stages the requests (R180). -/
theorem tickH_eq (d : DriveId) (s : State) :
    tickH d s =
      s.mod d fun x =>
        { takeSwapRequest s.cfg (takeExitRequests (mapInputs s.cfg
            { x with buttons := buttonsAtH d s, samplePolled := s.readEligible d || x.samplePolled })) with
          tickStep := .i } := by
  unfold tickH setStep
  dsimp only
  rw [pollAtH_eq, mod_mod, mod_mod]

/-- Settles O40: the poll, the input map and the staging, composed on one record. -/
theorem tickHResult : Obligations.TickHResult := by
  intro s r mode phase step d x bs k l next prev mask
  have run : exec .tickH s = .next (tickH d s) := exec_tickInstr_in_place r mode phase step
  rw [run, tickH_eq]
  refine congrArg _ (mod_congr _ _ _ _ ?_)
  rw [takeSwapRequest_eq]
  rfl

/-! ## Step i -/

section
variable {d : DriveId} {s : State} {z : Session}

/-- With no exit condition the counted session goes on to step j (R181). -/
theorem tickI_of_unknown (count : countTick (s.drive d).lines.resetting (s.drive d).session = z)
    (stays : exitCondition s.cfg z = .unknown) :
    tickI d s = s.mod d fun x => { x with session := z, tickStep := .j } := by
  subst count
  unfold tickI setStep
  simp only [drive_mod_self, modSession_session, stays, if_true, mod_mod]
  exact mod_congr _ _ _ _ rfl

/-- The first exit condition that holds is recorded, and ends the loop (R181, R250). -/
theorem tickI_of_exit {e : ExitType} (count : countTick (s.drive d).lines.resetting (s.drive d).session = z)
    (exits : exitCondition s.cfg z = e) (known : e ≠ .unknown) :
    tickI d s =
      (s.mod d fun x => { x with session := { z with exitReason := e }, phase := .idle }).emit (.exit d e) := by
  subst count
  unfold tickI raiseExit
  simp only [drive_mod_self, modSession_session, exits, if_neg known, mod_mod]
  exact congrArg (State.emit · _) (mod_congr _ _ _ _ rfl)

end

/-- Settles O41: the exit condition, branch by branch, on the counted session. -/
theorem tickIResult : Obligations.TickIResult := by
  intro s r mode phase step d z resets left z' exits
  have run : exec .tickI s = .next (tickI d s) := exec_tickInstr_in_place r mode phase step
  have count : countTick (s.drive d).lines.resetting (s.drive d).session = z' := rfl
  have raised {e : ExitType} (known : e ≠ .unknown) (cond : exitCondition s.cfg z' = e) : exits e :=
    run.trans (congrArg _ (tickI_of_exit count cond known))
  have cond : exitCondition s.cfg z' =
      if resets > s.cfg.resetThreshold then .reset else if z.pendExit then .keyboard
      else if z.pendAutoload then .autoload else if z.countdownActive && decide (left = 0) then .cd
      else if z.pendUnmount then .keyboard else .unknown := rfl
  refine ⟨fun reset => raised (by decide) ?_, fun quiet menu => raised (by decide) ?_,
    fun quiet stay load => raised (by decide) ?_, fun quiet stay noLoad =>
      ⟨fun countdown => raised (by decide) ?_, fun running =>
        ⟨fun unmount => raised (by decide) ?_, fun mounted => run.trans (congrArg _ (tickI_of_unknown count ?_))⟩⟩⟩ <;>
    rw [cond]
  · rw [if_pos reset]
  · rw [if_neg quiet, if_pos menu]
  · simp [quiet, stay, load]
  · simp [quiet, stay, noLoad, countdown]
  · simp [quiet, stay, noLoad, running, unmount]
  · simp [quiet, stay, noLoad, running, mounted]

/-! ## Step j -/

/-- An event that is emitted only at times, such as the log of a lost cycle, is no part of the record. -/
theorem drive_ite_emit (late : Prop) [Decidable late] (e : Event) (d : DriveId) (s : State) :
    (if late then s.emit e else s).drive d = s.drive d := by
  split <;> simp

theorem trace_ite_emit (late : Prop) [Decidable late] (e : Event) (s : State) :
    (if late then s.emit e else s).trace = s.trace ++ if late then [e] else [] := by
  split <;> simp

/-- Step j uses up answers of `Now()`, the first of them or all that the wait observes, and goes on (R183). -/
theorem tickJ_drive (d : DriveId) (s : State) :
    ∃ e, (tickJ d s).drive d = { s.drive d with tickStep := .jx, env := e } := by
  unfold tickJ
  simp only [setStep_drive]
  split
  · exact ⟨_, by rw [drive_mod_self, drive_ite_emit, drive_spend]⟩
  · exact ⟨_, by rw [drive_ite_emit, drive_spend]⟩

/-- A lost cycle is logged where the first elapsed time is greater than the period (R183, R241). -/
theorem tickJ_trace (d : DriveId) (s : State) :
    (tickJ d s).trace =
      s.trace ++
        if elapsed s.cfg (s.nowAnswer d) (s.drive d).session.before > s.cfg.tickPeriod then [.log d .lostCycle]
        else [] := by
  unfold tickJ
  simp only [setStep_trace]
  split
  · rw [mod_trace, trace_ite_emit, spend_trace]
  · rw [trace_ite_emit, spend_trace]

/-- Settles O42: whether it waits or not, step j writes its step and the answers left. -/
theorem tickJResult : Obligations.TickJResult := by
  intro s r mode phase step d e
  obtain ⟨env, record⟩ := tickJ_drive d s
  exact ⟨_, exec_tickInstr_in_place r mode phase step, tickJ_outside d s, tickJ_trace d s, by rw [subStep, record]⟩

/-! ## Step k -/

/-- The index a swap request asks for; a direct request outside the caddy asks for none (R185, R228 to R230). -/
def swapTarget (sw : Swap) (y : Caddy) : Nat :=
  match sw with
  | .none => y.current
  | .next => (y.current + 1) % y.images.length
  | .prev => (y.current + y.images.length - 1) % y.images.length
  | .direct k => if k < y.images.length then k else y.current

theorem swapCaddy_eq {sw : Swap} {y : Caddy} (filled : 0 < y.images.length) :
    swapCaddy sw y = { y with current := swapTarget sw y } := by
  cases sw with
  | none => rfl
  | next => exact if_pos filled
  | prev => exact if_pos filled
  | direct k =>
    unfold swapCaddy swapTarget Caddy.selectImage
    dsimp only
    split <;> rfl

/-- The target of a swap is an image of the caddy, where the current one is (R225). -/
theorem swapTarget_lt {sw : Swap} {y : Caddy} (current : y.current < y.images.length) :
    swapTarget sw y < y.images.length := by
  have filled : 0 < y.images.length := Nat.zero_lt_of_lt current
  cases sw with
  | none => exact current
  | next => exact Nat.mod_lt _ filled
  | prev => exact Nat.mod_lt _ filled
  | direct k =>
    unfold swapTarget
    dsimp only
    split <;> assumption

section
variable {c : Config} {x : Drive}

/-- With a single image, or with the current one as the target, nothing is swapped (R185). -/
theorem serviceSwap_of_same
    (same : x.caddy.images.length ≤ 1 ∨ swapTarget x.session.pendSwap x.caddy = x.caddy.current) :
    serviceSwap c x = x := by
  unfold serviceSwap
  split <;> rename_i staged
  · obtain ⟨many, _⟩ := staged
    have current := same.resolve_left (by omega)
    rw [swapCaddy_eq (by omega), current]
    exact if_pos rfl
  · rfl

/-- A staged swap to another image looks at the image's type (R185). -/
theorem serviceSwap_of_target {img : Image} (many : 1 < x.caddy.images.length)
    (other : swapTarget x.session.pendSwap x.caddy ≠ x.caddy.current)
    (target : x.caddy.images[swapTarget x.session.pendSwap x.caddy]? = some img) :
    serviceSwap c x =
      if kindOfImage img = x.chipKind then
        { x with
          caddy := { x.caddy with current := swapTarget x.session.pendSwap x.caddy }
          driveImage := some img
          session := applyQuirk c img x.session }
      else x := by
  have staged : x.session.pendSwap ≠ .none := by
    intro unstaged
    rw [unstaged] at other
    exact other rfl
  unfold serviceSwap
  rw [if_pos ⟨many, staged⟩, swapCaddy_eq (by omega)]
  dsimp only
  rw [if_neg other, target]
  rfl

end

/-- The image is of the live drive's type (R185). -/
theorem kindOfImage_eq_iff {img : Image} {kind : ChipKind} :
    kindOfImage img = kind ↔ img.info.isD81 = decide (kind = .cia1581) := by
  cases d81 : img.info.isD81 <;> cases kind <;> simp [kindOfImage, d81]

/-- Settles O44: the swap keeps the record, or inserts the target where its type fits. -/
theorem tickKResult : Obligations.TickKResult := by
  intro s r mode phase step ok d x n target kept
  have run : exec .tickK s = .next (tickK d s) := exec_tickInstr_in_place r mode phase step
  have target_eq : target = swapTarget x.session.pendSwap x.caddy := by
    unfold target swapTarget
    cases x.session.pendSwap <;> rfl
  have dropped (same : serviceSwap s.cfg x = x) : exec .tickK s = .next kept := by
    rw [run]
    refine congrArg _ (mod_congr _ _ _ _ ?_)
    rw [show s.drive s.cur = x from rfl, same]
    rfl
  refine ⟨fun same => dropped (serviceSwap_of_same (target_eq ▸ same)), fun many other => ?_⟩
  have current : x.caddy.current < n := by
    obtain ⟨_, ⟨empty, _⟩ | current⟩ := ok
    · simp [n, x, empty] at many
    · exact current
  have inside : target < n := target_eq ▸ swapTarget_lt current
  obtain ⟨img, image⟩ : ∃ img, x.caddy.images[target]? = some img := ⟨_, List.getElem?_eq_getElem inside⟩
  have served := serviceSwap_of_target (c := s.cfg) many (target_eq ▸ other) (target_eq ▸ image)
  refine ⟨img, image, fun otherType => dropped (served.trans (if_neg ?_)), fun sameType => ?_⟩
  · rwa [kindOfImage_eq_iff]
  · rw [if_pos (kindOfImage_eq_iff.2 sameType), applyQuirk_eq, ← target_eq] at served
    rw [run, mod_mod]
    refine congrArg _ (mod_congr _ _ _ _ ?_)
    rw [show s.drive s.cur = x from rfl, served]
    rfl

end Sys2Proof.Machine
end

-- ==== The arbiter's lock and counter ====
section
/-! SUPPORT. The two outcomes of a locked section issued as one operation (`44_arbiter.md` R210 to R212): with the lock
free it runs to its end, with the lock held it waits at its `Acquire`. Then the counter that the section keeps decides
which drive may read a shared bank (R214, R215). -/

namespace Sys2Proof.Machine

/-! ## A section that runs to its end -/

/-- Steps that nothing blocks are all taken by an operation that may take as many (R11). -/
theorem accept_startSteps_all {s : State} {pre : Drive → Bool} {ts : List LockStep} (r : s.ready)
    (place : pre s.self = true) (free : Unblocked s.cur ts s) (whole : ts.length ≤ s.unbroken + 1) :
    accept s pre (startSteps ts) = .next (setTodo s.cur [] (lockSteps s.cur ts s)) := by
  have run := accept_startSteps_now r place free rfl
  rwa [List.take_of_length_le whole, List.drop_eq_nil_of_le whole] at run

/-- The steps of `DD_ENTER` count the drive in (R211). -/
theorem lockSteps_ddEnter (d : DriveId) (s : State) :
    lockSteps d ddEnterSteps s = recount d true (s.dualDrive + 1) s := by
  cases d <;> rfl

/-- The steps of `DD_EXIT` count the drive out (R212). -/
theorem lockSteps_ddExit (d : DriveId) (s : State) :
    lockSteps d ddExitSteps s = recount d false (s.dualDrive - 1) s := by
  cases d <;> rfl

/-- Where the lock was free and no step was left, a recount changes the counter and `InLoop` alone. -/
theorem setTodo_recount {d : DriveId} {s : State} (b : Bool) (n : Int) (free : s.lock = .free)
    (idle : (s.drive d).todo = []) :
    setTodo d [] (recount d b n s) =
      ({ s with dualDrive := n } : State).mod d fun x => { x with session := { x.session with inLoop := b } } := by
  have nothingLeft : setTodo d [] (recount d b n s) = recount d b n s :=
    mod_eq_self _ _ _ (by rw [recount_drive, ← idle])
  rw [nothingLeft, recount, ← free]
  rfl

/-- Settles O46: nothing blocks a section whose lock is free, and it ends in a recount. -/
theorem arbiterCountsInstance : Obligations.ArbiterCountsInstance := by
  intro s r whole free
  obtain ⟨enters, exits, _, _⟩ := unblocked_section (d := s.cur) free
  have fits : 3 ≤ s.unbroken + 1 := by omega
  refine ⟨fun out => ?_, fun inside => ?_⟩
  · have run := accept_startSteps_all r (outOfLoop_iff.2 out) enters fits
    rwa [lockSteps_ddEnter, setTodo_recount _ _ free r.2.2] at run
  · have run := accept_startSteps_all (pre := isInLoop) r inside exits fits
    rwa [lockSteps_ddExit, setTodo_recount _ _ free r.2.2] at run

/-! ## A section that waits -/

/-- A held lock does not admit an `Acquire`, not even its holder's: the lock is not re-entrant (R210). -/
theorem acquire_blocked {d e : DriveId} {s : State} (held : s.lock = .held e) :
    ¬ stepEnabled d .acquire s = true := by
  simp [stepEnabled, held]

/-- An operation that begins with `Acquire` leaves all its steps for later while the lock is held. -/
theorem accept_startSteps_waits {s : State} {e : DriveId} {pre : Drive → Bool} {ts : List LockStep} (r : s.ready)
    (held : s.lock = .held e) (place : pre s.self = true) :
    accept s pre (startSteps (.acquire :: ts)) = .next (setTodo s.cur (.acquire :: ts) s) := by
  rw [accept_ready r place, startSteps, runSteps, if_neg (acquire_blocked held)]

/-- Settles O47: each of the four operations begins with `Acquire`. -/
theorem heldLockMakesOperationsWait : Obligations.HeldLockMakesOperationsWait := by
  intro s e r held
  exact ⟨fun out => accept_startSteps_waits r held (outOfLoop_iff.2 out),
    fun inside => accept_startSteps_waits (pre := isInLoop) r held inside,
    fun mode idle out => accept_startSteps_waits r held (mayEnter_iff.2 ⟨mode, idle, out⟩),
    fun mode idle inside exits => accept_startSteps_waits r held (mayLeave_iff.2 ⟨mode, idle, exits, inside⟩)⟩

/-! ## Who may read a shared bank -/

section
variable {s : State}

/-- With one drive counted, the drive in its loop reads the shared bank (R214). -/
theorem readEligible_of_one (shared : sharing s.cfg = true) (one : s.dualDrive = 1) (d : DriveId) :
    s.readEligible d = (s.drive d).session.inLoop := by
  rw [State.readEligible, if_pos shared, if_pos one]

/-- With any other count, the primary drive reads it (R214). -/
theorem readEligible_of_not_one (shared : sharing s.cfg = true) (other : s.dualDrive ≠ 1) (d : DriveId) :
    s.readEligible d = decide (d = s.cfg.primary) := by
  rw [State.readEligible, if_pos shared, if_neg other]

/-- A count of one singles out a drive (R39). -/
theorem loopCount_eq_one_iff :
    loopCount s = 1 ↔ ∃ d, (s.drive d).session.inLoop = true ∧ (s.drive d.other).session.inLoop = false := by
  constructor
  · intro one
    by_cases inside : s.d0.session.inLoop = true
    · exact ⟨.drive0, inside, by simpa [loopCount, inside, DriveId.other] using one⟩
    · exact ⟨.drive1, by simpa [loopCount, inside] using one, by simpa [DriveId.other] using inside⟩
  · rintro ⟨d, inside, outside⟩
    simp [loopCount_eq s d, counted, inside, outside]

end

/-- Settles O49: a count of one singles out the drive in its loop, every other count the primary drive. -/
theorem readEligibilityIsExclusive : Obligations.ReadEligibilityIsExclusive := by
  intro s count dual bank
  have shared : sharing s.cfg = true := by simp [sharing, dual, bank]
  by_cases one : s.dualDrive = 1
  · obtain ⟨d, inside, outside⟩ := loopCount_eq_one_iff.1 (count ▸ one)
    exact ⟨d, (readEligible_of_one shared one d).trans inside, (readEligible_of_one shared one d.other).trans outside⟩
  · refine ⟨s.cfg.primary, ?_, ?_⟩
    · simp [readEligible_of_not_one shared one]
    · simp [readEligible_of_not_one shared one]

end Sys2Proof.Machine
end

-- ==== What every step keeps of the caddies ====
section
/-! SUPPORT. `CaddyInv` is kept by every step (`45_caddy.md` R225, R233). A selection moves the current index to an
image of the caddy, an insert appends one, and an image enters the drive model from its caddy only; the caddy is emptied
where the emulation ends. -/

namespace Sys2Proof.Machine

/-! ## Selecting on a caddy -/

section
variable {y z : Caddy}

theorem selectFirst_of_empty (h : y.images.length = 0) : y.selectFirst = (false, y) := if_pos h

theorem selectFirst_of_filled (h : y.images.length ≠ 0) : y.selectFirst = (true, { y with current := 0 }) := if_neg h

theorem selectImage_of_lt {n : Nat} (h : n < y.images.length) : y.selectImage n = (true, { y with current := n }) :=
  if_pos h

theorem selectImage_of_le {n : Nat} (h : y.images.length ≤ n) : y.selectImage n = (false, y) := if_neg h.not_gt

theorem nextDisk_of_filled (h : y.images.length ≠ 0) :
    y.nextDisk = { y with current := (y.current + 1) % y.images.length } :=
  if_pos (Nat.pos_of_ne_zero h)

theorem nextDisk_of_empty (h : y.images.length = 0) : y.nextDisk = y := if_neg h.not_gt

theorem prevDisk_of_filled (h : y.images.length ≠ 0) :
    y.prevDisk = { y with current := (y.current + y.images.length - 1) % y.images.length } :=
  if_pos (Nat.pos_of_ne_zero h)

theorem prevDisk_of_empty (h : y.images.length = 0) : y.prevDisk = y := if_neg h.not_gt

/-- `z` has the images of `y`, and its current index is that of `y` or denotes one of them. -/
structure Reselected (y z : Caddy) : Prop where
  images  : z.images = y.images
  current : z.current = y.current ∨ z.current < y.images.length

theorem Reselected.refl (y : Caddy) : Reselected y y := ⟨rfl, .inl rfl⟩

theorem reselected_of_lt {n : Nat} (h : n < y.images.length) : Reselected y { y with current := n } := ⟨rfl, .inr h⟩

theorem selectFirst_reselected (y : Caddy) : Reselected y y.selectFirst.2 := by
  by_cases empty : y.images.length = 0
  · rw [selectFirst_of_empty empty]
    exact .refl y
  · rw [selectFirst_of_filled empty]
    exact reselected_of_lt (Nat.pos_of_ne_zero empty)

theorem selectImage_reselected (n : Nat) (y : Caddy) : Reselected y (y.selectImage n).2 := by
  by_cases inside : n < y.images.length
  · rw [selectImage_of_lt inside]
    exact reselected_of_lt inside
  · rw [selectImage_of_le (Nat.le_of_not_lt inside)]
    exact .refl y

theorem nextDisk_reselected (y : Caddy) : Reselected y y.nextDisk := by
  by_cases empty : y.images.length = 0
  · rw [nextDisk_of_empty empty]
    exact .refl y
  · rw [nextDisk_of_filled empty]
    exact reselected_of_lt (Nat.mod_lt _ (Nat.pos_of_ne_zero empty))

theorem prevDisk_reselected (y : Caddy) : Reselected y y.prevDisk := by
  by_cases empty : y.images.length = 0
  · rw [prevDisk_of_empty empty]
    exact .refl y
  · rw [prevDisk_of_filled empty]
    exact reselected_of_lt (Nat.mod_lt _ (Nat.pos_of_ne_zero empty))

/-- A selection keeps the caddy in order (R225). -/
theorem Reselected.caddyOk {c : Config} (h : Reselected y z) (ok : CaddyOk c y) : CaddyOk c z := by
  obtain ⟨bounded, current⟩ := ok
  obtain ⟨images, moved⟩ := h
  rw [CaddyOk, images]
  refine ⟨bounded, ?_⟩
  obtain same | inside := moved
  · rwa [same]
  · exact .inr inside

/-- An image is appended only where there is room for it (R226). -/
theorem CaddyOk.append {c : Config} (ok : CaddyOk c y) (room : y.images.length ≠ c.maxImages) (img : Image) :
    CaddyOk c { y with images := y.images ++ [img] } := by
  refine ⟨?_, .inr (caddyOk_current_append ok img)⟩
  have bounded := ok.1
  rw [List.length_append, List.length_singleton]
  omega

end

/-! ## The invariant of one drive -/

/-- The caddy of a drive is in order, and the drive model holds an image of it during an emulation (R225, R233). -/
structure CaddySound (c : Config) (x : Drive) : Prop where
  caddy : CaddyOk c x.caddy
  image : ImageOk x

theorem caddyInv_iff {s : State} : CaddyInv s ↔ ∀ d, CaddySound s.cfg (s.drive d) :=
  ⟨fun inv d => ⟨inv.caddy d, inv.image d⟩, fun sound => ⟨fun d => (sound d).caddy, fun d => (sound d).image⟩⟩

/-- A selection keeps the drive sound, whether or not it inserts one of the caddy's images into the drive model. -/
theorem CaddySound.reselect {c : Config} {x y : Drive} (h : CaddySound c x) (mode : y.mode = x.mode)
    (caddy : Reselected x.caddy y.caddy)
    (image : y.driveImage = x.driveImage ∨ ∃ img ∈ x.caddy.images, y.driveImage = some img) : CaddySound c y := by
  refine ⟨caddy.caddyOk h.caddy, fun emulating => ?_⟩
  rw [caddy.images]
  obtain same | inserted := image
  · rw [same]
    exact h.image (mode ▸ emulating)
  · exact inserted

/-- From `s` to `t` drive `d` stays sound, and so does the configuration that bounds its caddy. -/
structure KeepsCaddy (d : DriveId) (s t : State) : Prop where
  cfg   : t.cfg = s.cfg
  sound : CaddySound s.cfg (s.drive d) → CaddySound s.cfg (t.drive d)

section
variable {d : DriveId} {s t u : State}

theorem KeepsCaddy.of_eq (cfg : t.cfg = s.cfg) (mode : (t.drive d).mode = (s.drive d).mode)
    (caddy : (t.drive d).caddy = (s.drive d).caddy) (image : (t.drive d).driveImage = (s.drive d).driveImage) :
    KeepsCaddy d s t :=
  ⟨cfg, fun h => h.reselect mode (caddy ▸ .refl _) (.inl image)⟩

theorem KeepsCaddy.refl (d : DriveId) (s : State) : KeepsCaddy d s s :=
  .of_eq rfl rfl rfl rfl

theorem KeepsCaddy.trans (h : KeepsCaddy d s t) (k : KeepsCaddy d t u) : KeepsCaddy d s u :=
  ⟨k.cfg.trans h.cfg, fun ok => h.cfg ▸ k.sound (h.cfg.symm ▸ h.sound ok)⟩

/-- An operation that keeps the control of its drive keeps its caddy and its image. -/
theorem SameControl.keepsCaddy {c : Config} (h : SameControl c (s.drive d) (t.drive d)) (o : SameOutside d s t) :
    KeepsCaddy d s t :=
  .of_eq o.cfg h.mode h.caddy h.driveImage

theorem KeepsCaddy.mod (h : KeepsCaddy d s t) {f : Drive → Drive} (mode : (f (t.drive d)).mode = (t.drive d).mode)
    (caddy : (f (t.drive d)).caddy = (t.drive d).caddy)
    (image : (f (t.drive d)).driveImage = (t.drive d).driveImage) : KeepsCaddy d s (t.mod d f) :=
  h.trans (.of_eq (mod_cfg _ _ _) (by rwa [drive_mod_self]) (by rwa [drive_mod_self]) (by rwa [drive_mod_self]))

theorem KeepsCaddy.emit (h : KeepsCaddy d s t) (e : Event) : KeepsCaddy d s (t.emit e) :=
  h.trans (.of_eq rfl (by rw [drive_emit]) (by rw [drive_emit]) (by rw [drive_emit]))

theorem KeepsCaddy.setResult (h : KeepsCaddy d s t) (r : OpResult) : KeepsCaddy d s (setResult d r t) :=
  h.mod rfl rfl rfl

theorem KeepsCaddy.setCaddy (h : KeepsCaddy d s t) {y : Caddy} (caddy : Reselected (t.drive d).caddy y) :
    KeepsCaddy d s (setCaddy d y t) := by
  refine h.trans ⟨mod_cfg _ _ _, fun ok => ?_⟩
  rw [setCaddy_drive]
  exact ok.reselect rfl caddy (.inl rfl)

end

/-! ## Operations outside the tick -/

theorem readBrowse_keepsCaddy (d : DriveId) (s : State) : KeepsCaddy d s (readBrowse d s) := by
  obtain ⟨_, _, _, _, _, _, record⟩ := readBrowse_drive_exists d s
  exact .of_eq (readBrowse_outside d s).cfg (by rw [record]) (by rw [record]) (by rw [record])

/-- Beginning takes the current image of the caddy (R166). -/
theorem beginEmulating_keepsCaddy (d : DriveId) (s : State) : KeepsCaddy d s (beginEmulating d s) := by
  refine ⟨(beginEmulating_outside d s).cfg, fun ok => ?_⟩
  obtain ⟨_, same⟩ | ⟨img, current, record⟩ := beginEmulating_cases d s
  · rwa [same]
  · rw [record]
    exact ⟨ok.caddy, fun _ => ⟨img, List.mem_of_getElem? current, rfl⟩⟩

theorem caddyInsert_keepsCaddy (file : FileInfo) (ro : Bool) (d : DriveId) (s : State) :
    KeepsCaddy d s (caddyInsert file ro d s).2 := by
  refine ⟨(caddyInsert_outside file ro d s).cfg, fun ok => ?_⟩
  obtain ⟨img, _, _, room, _, record⟩ | ⟨_, _, record⟩ := caddyInsert_cases file ro d s <;> rw [record]
  · refine ⟨ok.caddy.append room img, fun emulating => ?_⟩
    obtain ⟨held, inside, holds⟩ := ok.image emulating
    exact ⟨held, List.mem_append_left _ inside, holds⟩
  · exact ⟨ok.caddy, ok.image⟩

theorem imageSelected_keepsCaddy (d : DriveId) (s : State) : KeepsCaddy d s (imageSelected d s) := by
  unfold imageSelected
  dsimp only
  have cleared : KeepsCaddy d s (clearMount d s) := (KeepsCaddy.refl d s).mod rfl rfl rfl
  have inserted := cleared.trans (caddyInsert_keepsCaddy s.side.file s.side.readOnly d _)
  split
  · split
    · exact (inserted.setCaddy (selectFirst_reselected _)).trans (beginEmulating_keepsCaddy d _)
    · exact inserted.trans (beginEmulating_keepsCaddy d _)
  · exact inserted.emit _

theorem stateChange_keepsCaddy (d : DriveId) (s : State) : KeepsCaddy d s (stateChange d s) := by
  unfold stateChange
  split
  · exact .refl d s
  · exact (KeepsCaddy.refl d s).mod rfl rfl rfl

theorem busReset_keepsCaddy (d : DriveId) (s : State) : KeepsCaddy d s (busReset d s) :=
  (busReset_control s.cfg d s).keepsCaddy (busReset_outside d s)

theorem fastpathEvent_keepsCaddy (o : FastPathOutcome) (d : DriveId) (s : State) :
    KeepsCaddy d s (fastpathEvent o d s) := by
  cases o with
  | imageSelected => exact imageSelected_keepsCaddy d s
  | stateChange => exact stateChange_keepsCaddy d s
  | fpReset => exact busReset_keepsCaddy d s

theorem fastbootStep_keepsCaddy (d : DriveId) (s : State) : KeepsCaddy d s (fastbootStep d s) := by
  refine ((cpuStep_control s.cfg d s).keepsCaddy (cpuStep_outside d s)).mod ?_ ?_ ?_ <;> (dsimp only; split <;> rfl)

/-- The terminal mode does not emulate (R191). -/
theorem shutdown_keepsCaddy (d : DriveId) (s : State) : KeepsCaddy d s (shutdown d s) := by
  refine ⟨(shutdown_outside d s).cfg, fun ok => ?_⟩
  rw [shutdown, drive_emit, drive_mod_self]
  exact ⟨ok.caddy, nofun⟩

/-! ## The tick -/

theorem tickI_keepsCaddy (d : DriveId) (s : State) : KeepsCaddy d s (tickI d s) := by
  have cfg := (tickI_outside d s).cfg
  obtain ⟨_, _, record⟩ | ⟨_, _, _, _, record⟩ := tickI_cases d s <;>
    exact .of_eq cfg (by rw [record]) (by rw [record]) (by rw [record])

/-- The swap of step k selects, and inserts an image of the caddy at most (R185). -/
theorem tickK_keepsCaddy (d : DriveId) (s : State) : KeepsCaddy d s (tickK d s) := by
  refine ⟨(tickK_outside d s).cfg, fun ok => ?_⟩
  obtain ⟨_, _, _, served, _, _, _, current, image⟩ := serviceSwap_cases s.cfg (s.drive d)
  rw [tickK, drive_mod_self, served]
  exact ok.reselect rfl ⟨rfl, current⟩ image

/-- Of the sub-steps only k touches the caddy (R232). -/
theorem subStep_keepsCaddy (t : TickStep) (d : DriveId) (s : State) : KeepsCaddy d s (subStep t d s) := by
  have outside := subStep_outside t d s
  cases t with
  | a => exact (tickA_control s.cfg d s).keepsCaddy outside
  | b => exact (tickB_control s.cfg d s).keepsCaddy outside
  | c => exact (tickC_control s.cfg d s).keepsCaddy outside
  | d => exact (tickD_control s.cfg d s).keepsCaddy outside
  | e => exact (tickE_control s.cfg d s).keepsCaddy outside
  | f => exact (tickF_control s.cfg d s).keepsCaddy outside
  | g => exact (tickG_control s.cfg d s).keepsCaddy outside
  | h => exact (tickH_control d s).keepsCaddy outside
  | i => exact tickI_keepsCaddy d s
  | j => exact (tickJ_control s.cfg d s).keepsCaddy outside
  | jx => exact (tickJX_control s.cfg d s).keepsCaddy outside
  | k => exact tickK_keepsCaddy d s

theorem runTick_keepsCaddy (d : DriveId) (n : Nat) (ts : List TickStep) (s : State) :
    KeepsCaddy d s (runTick d n ts s) := by
  induction n generalizing ts s with
  | zero => exact .refl d s
  | succ n ih =>
    cases ts with
    | nil => exact .refl d s
    | cons t ts =>
      dsimp only [runTick]
      split
      · exact subStep_keepsCaddy t d s
      · exact (subStep_keepsCaddy t d s).trans (ih ts _)

/-! ## Lock steps -/

/-- Of the lock steps only the session's end touches the caddy: it empties it, and ends the emulation (R188). -/
theorem lockStep_keepsCaddy (d : DriveId) (t : LockStep) (s : State) : KeepsCaddy d s (lockStep d t s) := by
  have cfg := lockStep_cfg d t s
  cases t with
  | acquire | release => exact .of_eq cfg (by simp [lockStep]) (by simp [lockStep]) (by simp [lockStep])
  | countUp | countDown =>
    exact .of_eq cfg (by simp [lockStep, setInLoop]) (by simp [lockStep, setInLoop]) (by simp [lockStep, setInLoop])
  | enterSession =>
    obtain ⟨_, _, _, _, record⟩ := enterSession_drive d s
    exact .of_eq cfg (by rw [lockStep, record]) (by rw [lockStep, record]) (by rw [lockStep, record])
  | leaveSession =>
    refine ⟨cfg, fun _ => ?_⟩
    rw [lockStep, leaveSession_drive]
    exact ⟨⟨Nat.zero_le _, .inl ⟨rfl, rfl⟩⟩, nofun⟩

theorem runSteps_keepsCaddy (d : DriveId) (n : Nat) (ts : List LockStep) (s : State) :
    KeepsCaddy d s (runSteps d n ts s) :=
  runSteps_ind (P := KeepsCaddy d s) d (fun _ _ h => h.mod rfl rfl rfl)
    (fun t u h => h.trans (lockStep_keepsCaddy d t u)) n ts s (.refl d s)

/-! ## Operations and moves -/

theorem accept_keepsCaddy {s t : State} {pre : Drive → Bool} {op : DriveId → State → State}
    (body : ∀ d s, KeepsCaddy d s (op d s)) (h : accept s pre op = .next t) : KeepsCaddy s.cur s t := by
  obtain ⟨_, _, rfl⟩ := accept_next.1 h
  exact body _ _

theorem accept_keepsCaddy_of_control {s t : State} {pre : Drive → Bool} {op : DriveId → State → State}
    (outside : ∀ d s, SameOutside d s (op d s)) (control : ∀ d s, SameControl s.cfg (s.drive d) ((op d s).drive d))
    (h : accept s pre op = .next t) : KeepsCaddy s.cur s t :=
  accept_keepsCaddy (fun d s => (control d s).keepsCaddy (outside d s)) h

theorem exec_keepsCaddy {i : Instr} {s t : State} (h : exec i s = .next t) : KeepsCaddy s.cur s t := by
  have select (d : DriveId) (s : State) {y : Caddy} := (KeepsCaddy.refl d s).setCaddy (y := y)
  have sub (n : TickStep) (accepted : accept s (atTickStep n) (subStep n) = .next t) : KeepsCaddy s.cur s t :=
    accept_keepsCaddy (subStep_keepsCaddy n) accepted
  cases i with
  | busReset => exact accept_keepsCaddy busReset_keepsCaddy h
  | readBrowse => exact accept_keepsCaddy readBrowse_keepsCaddy h
  | readEmu1541 => exact accept_keepsCaddy_of_control readEmu1541_outside (fun _ _ => readEmu1541_control _ _ _) h
  | readEmu1581 => exact accept_keepsCaddy_of_control readEmu1581_outside (fun _ _ => readEmu1581_control _ _ _) h
  | refresh1541 | refresh1581 =>
    exact accept_keepsCaddy_of_control refresh_outside (fun _ _ => refresh_control _ _ _) h
  | portBOut status =>
    exact accept_keepsCaddy_of_control (portBOut_outside status) (fun _ _ => portBOut_control _ _ _ _) h
  | setSrqOut b => exact accept_keepsCaddy_of_control (setSrqOut_outside b) (fun _ _ => setSrqOut_control _ _ _ _) h
  | pollButtons => exact accept_keepsCaddy_of_control pollButtons_outside pollButtons_control h
  | fastpathEvent o => exact accept_keepsCaddy (fastpathEvent_keepsCaddy o) h
  | beginEmulating => exact accept_keepsCaddy beginEmulating_keepsCaddy h
  | fastbootStep => exact accept_keepsCaddy fastbootStep_keepsCaddy h
  | tick => exact accept_keepsCaddy (fun _ _ => runTick_keepsCaddy _ _ _ _) h
  | emulateEnter | emulateExit | ddEnter | ddExit => exact accept_keepsCaddy (fun _ _ => runSteps_keepsCaddy _ _ _ _) h
  | shutdown => exact accept_keepsCaddy shutdown_keepsCaddy h
  | caddyInsert ro => exact accept_keepsCaddy (fun _ _ => (caddyInsert_keepsCaddy _ ro _ _).setResult _) h
  | selectFirst => exact accept_keepsCaddy (fun d s => (select d s (selectFirst_reselected _)).setResult _) h
  | selectImage n => exact accept_keepsCaddy (fun d s => (select d s (selectImage_reselected _ _)).setResult _) h
  | nextDisk => exact accept_keepsCaddy (fun d s => select d s (nextDisk_reselected _)) h
  | prevDisk => exact accept_keepsCaddy (fun d s => select d s (prevDisk_reselected _)) h
  | getCount => exact accept_keepsCaddy (fun d s => (KeepsCaddy.refl d s).setResult _) h
  | tickA => exact sub .a h
  | tickB => exact sub .b h
  | tickC => exact sub .c h
  | tickD => exact sub .d h
  | tickE => exact sub .e h
  | tickF => exact sub .f h
  | tickG => exact sub .g h
  | tickH => exact sub .h h
  | tickI => exact sub .i h
  | tickJ => exact sub .j h
  | tickJX => exact sub .jx h
  | tickK => exact sub .k h

/-- Everything a move can do: an operation, the next lock step of its drive, a request latch, or nothing (R72). -/
theorem runMove_cases {m : Move} {s t : State} (h : runMove m s = .next t) :
    (∃ i side n, exec i (s.focus m.drive side n) = .next t) ∨ (∃ ts, t = runSteps m.drive 1 ts s) ∨
      (∃ r, t = s.mod m.drive fun x => x.modLatches (setLatch s.cfg r)) ∨ t = s := by
  cases m with
  | issue d word side n =>
    rw [runMove, issueWord] at h
    split at h
    · exact .inl ⟨_, side, n, h⟩
    · cases h
  | advance d =>
    obtain ⟨u, us, _, rfl⟩ | ⟨_, ⟨i, _, h⟩ | ⟨ts, _, rfl⟩ | rfl⟩ := advance_cases h
    · exact .inr (.inl ⟨u :: us, rfl⟩)
    · exact .inl ⟨i, s.side, s.unbroken, h⟩
    · exact .inr (.inl ⟨ts, rfl⟩)
    · exact .inr (.inr (.inr rfl))
  | request d r =>
    rw [runMove, request] at h
    split at h
    · cases h
      exact .inr (.inr (.inl ⟨r, rfl⟩))
    · cases h

theorem runMove_keepsCaddy {m : Move} {s t : State} (h : runMove m s = .next t) : KeepsCaddy m.drive s t := by
  obtain ⟨i, side, n, h⟩ | ⟨ts, rfl⟩ | ⟨r, rfl⟩ | rfl := runMove_cases h
  · have focused : KeepsCaddy m.drive s (s.focus m.drive side n) := .of_eq rfl (by simp) (by simp) (by simp)
    exact focused.trans (exec_keepsCaddy h)
  · exact runSteps_keepsCaddy m.drive 1 ts s
  · exact (KeepsCaddy.refl m.drive s).mod rfl rfl rfl
  · exact .refl m.drive t

/-- A move keeps both drives sound: its own by what it does, the other by leaving it alone (R72). -/
theorem runMove_caddyInv {m : Move} {s t : State} (inv : CaddyInv s) (h : runMove m s = .next t) : CaddyInv t := by
  have own := runMove_keepsCaddy h
  have other := runMove_otherUntouched h
  have sound := caddyInv_iff.1 inv
  refine caddyInv_iff.2 ((forall_drive m.drive).2 ⟨?_, ?_⟩) <;> rw [own.cfg]
  · exact own.sound (sound m.drive)
  · rw [other.other]
    exact sound m.drive.other

/-- Settles O55: a step without a move changes nothing, and a move keeps both drives sound. -/
theorem stepKeepsCaddyInvariant : Obligations.StepKeepsCaddyInvariant := by
  intro s t inv h
  cases agenda : s.agenda with
  | nil =>
    rw [step, runAgenda, agenda] at h
    cases h
    exact inv
  | cons m rest =>
    rw [step_eq_runMove agenda] at h
    exact runMove_caddyInv ⟨by simpa using inv.caddy, by simpa using inv.image⟩ h

end Sys2Proof.Machine
end

-- ==== The operations on the caddy ====
section
/-! SUPPORT. What each operation on the caddy answers and makes of it (`45_caddy.md` R226 to R232): the selections come
down to the caddy's own equations. -/

namespace Sys2Proof.Machine

section
variable {d : DriveId} {s : State}

theorem setCaddy_current (k : Nat) :
    setCaddy d { (s.drive d).caddy with current := k } s =
      s.mod d fun x => { x with caddy := { x.caddy with current := k } } :=
  mod_congr _ _ _ _ rfl

theorem setCaddy_same : setCaddy d (s.drive d).caddy s = s :=
  mod_eq_self _ _ _ rfl

/-! ## `SELECT_IMAGE`, `SELECT_FIRST`, `NEXT_DISK` and `PREV_DISK` -/

theorem selectImage_selects {n : Byte} (inside : n.toNat < (s.drive d).caddy.images.length) :
    selectImage n d s =
      s.mod d fun x => { x with caddy := { x.caddy with current := n.toNat }, result := .ok true } := by
  rw [selectImage, selectImage_of_lt inside, setCaddy_current, setResult, mod_mod]

theorem selectImage_fails {n : Byte} (outside : (s.drive d).caddy.images.length ≤ n.toNat) :
    selectImage n d s = s.mod d fun x => { x with result := .ok false } := by
  rw [selectImage, selectImage_of_le outside, setCaddy_same, setResult]

theorem selectFirst_selects (filled : (s.drive d).caddy.images.length ≠ 0) :
    selectFirst d s =
      (s.mod d fun x => { x with caddy := { x.caddy with current := 0 } }).mod d fun x =>
        { x with result := .ok true } := by
  rw [selectFirst, selectFirst_of_filled filled, setCaddy_current, setResult]

theorem selectFirst_fails (empty : (s.drive d).caddy.images.length = 0) :
    selectFirst d s = s.mod d fun x => { x with result := .ok false } := by
  rw [selectFirst, selectFirst_of_empty empty, setCaddy_same, setResult]

end

/-- Settles O51: the word is the encoding; the index is inside the caddy or outside, and every other control point
refuses. -/
theorem selectImageResult : Obligations.SelectImageResult := by
  refine ⟨fun n => decodeEncodeRoundTrip (.selectImage n), ?_⟩
  intro s n r here
  have run (place : here) : exec (.selectImage n) s = .next (selectImage n s.cur s) :=
    accept_ready r (maySwap_iff.2 place)
  refine ⟨fun place inside => ?_, fun place outside => ?_, fun elsewhere => ?_⟩
  · rw [run place, selectImage_selects inside]
  · rw [run place, selectImage_fails outside]
  · exact accept_outOfPlace r (mt maySwap_iff.1 elsewhere)

/-- Settles O52: each operation by its equations on a filled and on an empty caddy. -/
theorem selectFirstNextPrevResult : Obligations.SelectFirstNextPrevResult := by
  intro s r n cur select swappable
  have first (place : s.self.mode = .iecCommands) : exec .selectFirst s = .next (selectFirst s.cur s) :=
    accept_ready r (inIecCommands_iff.2 place)
  have next (place : swappable) : exec .nextDisk s = .next (setCaddy s.cur s.self.caddy.nextDisk s) :=
    accept_ready r (maySwap_iff.2 place)
  have prev (place : swappable) : exec .prevDisk s = .next (setCaddy s.cur s.self.caddy.prevDisk s) :=
    accept_ready r (maySwap_iff.2 place)
  refine ⟨fun place filled => ?_, fun place empty => ?_, fun place filled => ?_, fun place filled => ?_,
    fun place empty => ⟨?_, ?_⟩⟩
  · rw [first place, selectFirst_selects filled]
  · rw [first place, selectFirst_fails empty]
  · rw [next place, nextDisk_of_filled filled, setCaddy_current]
  · rw [prev place, prevDisk_of_filled filled, setCaddy_current]
  · rw [next place, nextDisk_of_empty empty, setCaddy_same]
  · rw [prev place, prevDisk_of_empty empty, setCaddy_same]

/-! ## `GET_COUNT` and `CADDY_INSERT` -/

/-- Settles O53: the word is the encoding, the count is the body, and the bound is a part of the invariant. -/
theorem getCountResult : Obligations.GetCountResult :=
  ⟨decodeEncodeRoundTrip .getCount, fun _ r => ⟨accept_ready (pre := anywhere) r rfl, fun ok => ok.1⟩⟩

theorem caddyInsert_of_full {file : FileInfo} {ro : Bool} {d : DriveId} {s : State}
    (full : (s.drive d).caddy.images.length = s.cfg.maxImages) : caddyInsert file ro d s = (false, s) :=
  if_pos full

/-- Settles O50: an insert into a full caddy changes nothing, one that fails to open uses up an answer, and one that
opens appends the image. -/
theorem caddyInsertResult : Obligations.CaddyInsertResult := by
  intro s ro r mode d x opened
  have run : exec (.caddyInsert ro) s = .next (insertImage ro d s) := accept_ready r (inIecCommands_iff.2 mode)
  refine ⟨fun full => ?_, fun room => ⟨_, run, insertImage_outside ro d s, ?_⟩⟩
  · rw [run, insertImage, caddyInsert_of_full full]
    rfl
  · cases answer : opened with
    | none =>
      obtain ⟨u, e, failed, trace, record⟩ := caddyInsert_of_failure (d := d) (.inr answer)
      rw [insertImage, failed, setResult_drive, record]
      exact ⟨trace ▸ mod_trace _ _ _, fun _ => rfl, nofun⟩
    | some img =>
      obtain ⟨u, e, inserted, trace, _, record⟩ := caddyInsert_of_open room answer
      rw [insertImage, inserted, setResult_drive, record]
      refine ⟨trace ▸ mod_trace _ _ _, nofun, fun img' same => ?_⟩
      obtain rfl := Option.some.inj same
      rfl

end Sys2Proof.Machine
end

-- ==== The values at power-on ====
section
/-! SUPPORT. What power-on leaves in every register (`70_reset_and_hazards.md` R272). The held sample is the union of
the masks whose bits read 1 while nothing is asserted, and a one-hot mask meets such a union exactly when it is one of
its masks (`10_state.md` R7, R28). -/

namespace Sys2Proof.Machine

/-! ## Unions of one-hot masks -/

theorem isOneHot_iff {w : Nat} {m : RawWord} : isOneHot w m = true ↔ ∃ p < w, m = 2 ^ p := by
  simp [isOneHot]

/-- The word in which exactly the bits of the masks are 1. -/
def unionMask (ms : List RawWord) : RawWord :=
  ms.foldl (· ||| ·) 0

theorem testBit_foldl_or (ms : List RawWord) (a : RawWord) (p : Nat) :
    (ms.foldl (· ||| ·) a).testBit p = true ↔ a.testBit p = true ∨ ∃ m ∈ ms, m.testBit p = true := by
  induction ms generalizing a with
  | nil => simp
  | cons m ms ih => simp [ih, or_assoc]

theorem testBit_unionMask {ms : List RawWord} {p : Nat} :
    (unionMask ms).testBit p = true ↔ ∃ m ∈ ms, m.testBit p = true := by
  simp [unionMask, testBit_foldl_or]

section
variable {w : Nat} {ms : List RawWord} {pin : RawWord}

/-- Distinct one-hot masks have no bit in common. -/
theorem unionMask_and_eq_zero_iff (hot : ∀ m ∈ ms, isOneHot w m = true) (pinHot : isOneHot w pin = true) :
    unionMask ms &&& pin = 0 ↔ pin ∉ ms := by
  obtain ⟨p, _, rfl⟩ := isOneHot_iff.1 pinHot
  have bit : (unionMask ms).testBit p = true ↔ 2 ^ p ∈ ms := by
    refine testBit_unionMask.trans ⟨fun ⟨m, mem, set⟩ => ?_, fun mem => ⟨_, mem, Nat.testBit_two_pow_self⟩⟩
    obtain ⟨q, _, rfl⟩ := isOneHot_iff.1 (hot m mem)
    rw [Nat.testBit_two_pow, decide_eq_true_iff] at set
    exact set ▸ mem
  rw [← bit, Nat.and_two_pow]
  cases (unionMask ms).testBit p <;> simp

theorem unionMask_lt (hot : ∀ m ∈ ms, isOneHot w m = true) : unionMask ms < 2 ^ w := by
  refine Nat.lt_pow_two_of_testBit _ fun i outside => Bool.eq_false_iff.2 fun set => ?_
  obtain ⟨m, mem, set⟩ := testBit_unionMask.1 set
  obtain ⟨p, inside, rfl⟩ := isOneHot_iff.1 (hot m mem)
  rw [Nat.testBit_two_pow, decide_eq_true_iff] at set
  omega

end

/-! ## The released sample -/

/-- The pins whose bit is 1 while nothing is asserted: every button, and the lines unless their inputs are inverted
(R110, R150). -/
def highPins (c : Config) : List RawWord :=
  c.pinButtons ++ if c.invertIECInputs then [] else c.linePins

theorem releasedSample_eq (c : Config) : releasedSample c = unionMask (highPins c) := by
  cases inverted : c.invertIECInputs <;>
    simp [releasedSample, unionMask, highPins, Config.linePins, inverted]

section
variable {c : Config}

theorem highPins_subset : highPins c ⊆ c.linePins ++ c.pinButtons := by
  refine List.append_subset.2 ⟨List.subset_append_right _ _, ?_⟩
  split
  · exact List.nil_subset _
  · exact List.subset_append_left _ _

/-- A line is high while released exactly when its inputs are not inverted: no line shares its pin with a button. -/
theorem linePin_mem_highPins (distinct : c.pinsDistinct = true) {pin : RawWord} (line : pin ∈ c.linePins) :
    pin ∈ highPins c ↔ c.invertIECInputs = false := by
  have noButton : pin ∉ c.pinButtons := List.disjoint_of_nodup_append (of_decide_eq_true distinct) line
  cases inverted : c.invertIECInputs <;> simp [highPins, inverted, line, noButton]

theorem releasedSample_and_eq_zero_iff (hot : c.pinsOneHot = true) {pin : RawWord}
    (known : pin ∈ c.linePins ++ c.pinButtons) : releasedSample c &&& pin = 0 ↔ pin ∉ highPins c := by
  have hot := List.all_eq_true.1 hot
  rw [releasedSample_eq]
  exact unionMask_and_eq_zero_iff (fun m mem => hot m (highPins_subset mem)) (hot pin known)

theorem releasedSample_lt (hot : c.pinsOneHot = true) : releasedSample c < 2 ^ c.gpioW := by
  rw [releasedSample_eq]
  exact unionMask_lt fun m mem => List.all_eq_true.1 hot m (highPins_subset mem)

theorem sense_releasedSample (hot : c.pinsOneHot = true) (distinct : c.pinsDistinct = true) {pin : RawWord}
    (line : pin ∈ c.linePins) : sense c (releasedSample c) pin = false := by
  have low := releasedSample_and_eq_zero_iff hot (List.mem_append_left _ line)
  rw [linePin_mem_highPins distinct line] at low
  rw [← Bool.not_eq_true]
  cases inverted : c.invertIECInputs with
  | false => simp [sense_normal_iff inverted, low, inverted]
  | true => simp [sense_inverted_iff inverted, low, inverted]

theorem releasedSample_button (hot : c.pinsOneHot = true) {m : RawWord} (button : m ∈ c.pinButtons) :
    releasedSample c &&& m ≠ 0 := fun low =>
  (releasedSample_and_eq_zero_iff hot (List.mem_append_right _ button)).1 low (List.mem_append_left _ button)

end

/-! ## The rows of R272 -/

theorem powerOn_buttons {c : Config} {boot : DriveBoot} :
    ∀ b ∈ (Drive.powerOn c boot).buttons, b = ⟨false, 0, 0, 0, false, false⟩ := by
  intro b mem
  obtain ⟨_, _, rfl⟩ := List.mem_map.1 mem
  rfl

theorem powerOn_buttons_length {c : Config} {boot : DriveBoot} :
    (Drive.powerOn c boot).buttons.length = c.pinButtons.length :=
  List.length_map _

/-- Settles O58: every register holds its row's value by definition, for each of the two instances; the held sample is
the released one. -/
theorem powerOnValues : Obligations.PowerOnValues := by
  intro c _ _ _ _ _ _ d
  have sample (hot : c.pinsOneHot = true) (distinct : c.pinsDistinct = true) :
      releasedSample c < 2 ^ c.gpioW ∧ (∀ pin ∈ c.linePins, sense c (releasedSample c) pin = false) ∧
        ∀ m ∈ c.pinButtons, releasedSample c &&& m ≠ 0 :=
    ⟨releasedSample_lt hot, fun _ => sense_releasedSample hot distinct, fun _ => releasedSample_button hot⟩
  cases d <;>
    exact ⟨⟨rfl, rfl, rfl⟩, ⟨rfl, rfl, rfl, rfl⟩, rfl, ⟨rfl, rfl⟩, rfl, rfl, ⟨rfl, rfl, rfl⟩, rfl, powerOn_buttons,
      powerOn_buttons_length, rfl, sample⟩

end Sys2Proof.Machine
end
